-- ==== Sys2Proof/Word.lean ====
section
/-! DEFINITION. The word types of the GX7204: 72-bit native words, 64-bit data, bytes, register and unit numbers. -/

namespace Sys2Proof

/-- A byte, and the tag byte of a data word (R21). -/
abbrev Byte := BitVec 8

/-- The 64 data bits of a data word (R21). -/
abbrev Data := BitVec 64

/-- The native 72-bit word: a data word with its tag in [71:64], or a code word (R21, R29). -/
abbrev Word := BitVec 72

/-- A register number W0 to W31 (R44). -/
abbrev Reg := Fin 32

/-- A sequencer thread T0 to T7 (R44). -/
abbrev Thread := Fin 8

/-- An MX port, MX0 or MX1. -/
abbrev MxNo := Fin 2

/-- A physical lane L0 to L7; MX0 has L0 to L3, MX1 has L4 to L7 (R130). -/
abbrev LaneNo := Fin 8

/-- A Parene port PB0 to PB3. -/
abbrev PbNo := Fin 4

/-- A Riffle engine RE0 to RE3. -/
abbrev EngNo := Fin 4

/-- The global number of a Riffle channel, 16 x engine + channel (R282). -/
abbrev ChanNo := Fin 64

/-- A 48-bit counter that wraps (Tables 4.5, 6.12, 7.14, 8.10 and the other status tables). -/
abbrev Counter := BitVec 48

end Sys2Proof
end

