-- ==== Sys2Proof/Syntax.lean ====
section
/-! DEFINITION. Abstract syntax: the commands of the block and their operands, one constructor per row of the opcode table. -/

namespace Sys2Proof

/-- Format R: WD, WA, WB and IMM9 (Table 3.2). -/
structure FmtR where
  wd : Reg
  wa : Reg
  wb : Reg
  imm9 : BitVec 9
deriving DecidableEq, Repr

/-- Format I: WD, WA and the signed IMM20 (Table 3.2). -/
structure FmtI where
  wd : Reg
  wa : Reg
  imm : BitVec 20
deriving DecidableEq, Repr

/-- Format M: WD, the quarter Q in [24:23], the bits [22:16] that must be 0, and IMM16 (Table 3.2). -/
structure FmtM where
  wd : Reg
  q : BitVec 2
  zero : BitVec 7
  imm : BitVec 16
deriving DecidableEq, Repr

/-- Format B: WA, WB and the signed OFF20 in instructions (Table 3.2). -/
structure FmtB where
  wa : Reg
  wb : Reg
  off : BitVec 20
deriving DecidableEq, Repr

/-- Format J: WD and the signed OFF25 (Table 3.2). -/
structure FmtJ where
  wd : Reg
  off : BitVec 25
deriving DecidableEq, Repr

/-- Format X: WD, WA, WB, ROUTE, POSTED, SIZE, COUNT - 1 and the bits [4:0] that must be 0 (Table 3.2). -/
structure FmtX where
  wd : Reg
  wa : Reg
  wb : Reg
  route : BitVec 2
  posted : Bool
  size : BitVec 2
  count1 : BitVec 5
  zero : BitVec 5
deriving DecidableEq, Repr

/-- Format C: WD, WA, WB and IMM8; the function code CF goes with the mnemonic (Table 3.2). -/
structure FmtC where
  wd : Reg
  wa : Reg
  wb : Reg
  imm8 : BitVec 8
deriving DecidableEq, Repr

/-- Format S: WA, WB, SUB, INST and SX (Table 3.2). -/
structure FmtS where
  wa : Reg
  wb : Reg
  sub : BitVec 4
  inst : BitVec 3
  sx : BitVec 13
deriving DecidableEq, Repr

/-- The seven coprocessor units (Table 4.3). -/
inductive CpUnit
  | cp0 | cp1 | hash | ec | aes | rng | cp3
deriving DecidableEq, Repr

/-- Header word H0 of a packet without KIND, which the row's name gives (Table 7.4). -/
structure Hdr where
  tag : BitVec 10
  psn : BitVec 12
  src : BitVec 16
  dst : BitVec 16
  len : BitVec 9
  pair : Bool
  retx : Bool
  rsv : BitVec 3
deriving DecidableEq, Repr

/-- A request or INT packet: H0, H1, H2 (WRN only) and its data words (Tables 7.3 to 7.5). -/
structure ReqPkt where
  h : Hdr
  addr : BitVec 48
  odom : BitVec 8
  otoken : BitVec 16
  wseq : BitVec 32
  h2rsv : BitVec 40
  data : List Word
deriving DecidableEq, Repr

/-- An RSP packet (Tables 7.3 and 7.6). -/
structure RspPkt where
  h : Hdr
  code : BitVec 4
  offset : BitVec 8
  rsv1 : BitVec 4
  hint : BitVec 16
  rsv2 : BitVec 40
  data : List Word
deriving DecidableEq, Repr

/-- A TIME packet: H0 and the three data words of Table 7.10. -/
structure TimePkt where
  h : Hdr
  txtime : Word
  echotx : Word
  echorx : Word
deriving DecidableEq, Repr

/-- A link control packet (Table 7.8). -/
structure LcpPkt where
  ackpsn : BitVec 12
  nak : Bool
  rsv1 : Bool
  cred0 : BitVec 12
  cred1 : BitVec 12
  cred2 : BitVec 12
  cred3 : BitVec 12
  rsv2 : BitVec 6
deriving DecidableEq, Repr

/-- A seal flit (Table 7.11): SEGNO, EPOCH, the GCM tag, and whether the bits the table gives as 0 are 0. -/
structure SealFlit where
  segno : BitVec 64
  epoch : BitVec 2
  tag : BitVec 128
  zeros : Bool
deriving DecidableEq, Repr

/-- What a HELLO says of its sender (Table 13.3, TYPE 0x01). -/
structure HelloBody where
  digest : BitVec 384
  compat : Byte
  rev : BitVec 4
  ports : BitVec 4
  prio : BitVec 4
  n1 : BitVec 2
  version : BitVec 32
  cands : BitVec 16
  takeUnm : Bool
  verMatch : BitVec 2
  group : BitVec 16
deriving DecidableEq, Repr

/-- What a HEARTBEAT says (Table 13.3, TYPE 0x02). -/
structure HeartBody where
  seen : BitVec 4
  view : BitVec 4
  gstate : BitVec 3
  stewards : BitVec 8
  svalid : BitVec 4
  tstate : BitVec 3
  ackEpoch : BitVec 32
deriving DecidableEq, Repr

/-- The kind of a request packet. -/
inductive RqKind
  | rd | wrn | wrp | flush | int
deriving DecidableEq, Repr

/-- The words after the group header, by TYPE (Table 13.3). -/
inductive GrpBody
  | hello (b : HelloBody)
  | heartbeat (b : HeartBody)
  | propose (mask : BitVec 4)
  | ack
  | commit (mask : BitVec 4)
  | tprobe (txtime echotx echorx : Data)
  | fwdreq (kind : RqKind) (r : ReqPkt)
  | fwddata (words : List Word)
  | fwdrsp (code : BitVec 4) (offset : BitVec 8) (hint : BitVec 16) (len : BitVec 9) (words : List Word)
  | jrec (eh0 eh1 eh2 eh3 eh4 : Data) (words : List Word)
  | jrecx (words : List Word)
  | jout (jsn : BitVec 48) (jout : BitVec 4) (port : BitVec 2)
  | jack (jsn : BitVec 48) (port : BitVec 2) (outcome : Bool)
  | leave
  | reserved (type : BitVec 8) (words : List Word)
deriving DecidableEq, Repr

/-- A GRP packet: H0, H1, the group header of Table 13.2 and its body. `dup` says that it is a later copy of a packet
that another MX port has brought already (R337). -/
structure GrpPkt where
  h : Hdr
  addr : BitVec 48
  odom : BitVec 8
  otoken : BitVec 16
  sender : BitVec 2
  dest : BitVec 2
  epoch : BitVec 32
  body : GrpBody
  dup : Bool
deriving DecidableEq, Repr

/-- The response lines found low when a beat is evaluated (Table 8.4). -/
structure BeatLines where
  ack : Bool
  rty : Bool
  berr : Bool
deriving DecidableEq, Repr

/-- What a card has on AD and WR at a fall of its strobe (R189, R190). -/
structure CardLines where
  ad : BitVec 18
  wr : Bool
deriving DecidableEq, Repr

/-- A change of a card's BR# on a port (R209). -/
structure BusReq where
  port : PbNo
  low : Bool
deriving DecidableEq, Repr

/-- One of a thread's outstanding loads, by its place among them, the oldest 0 (R98, R101). -/
structure LoadOf where
  thread : Thread
  k : Nat
deriving DecidableEq, Repr

/-- A training frame as received on a lane: whether its marker stood inverted, its 32-bit control word (Table 6.6) and
its CRC-16. -/
structure TrainFrame where
  inverted : Bool
  ctrl : BitVec 32
  crc : BitVec 16
deriving DecidableEq, Repr

/-- A received codeword (R134 to R137): its marker (Table 6.3), whether it is uncorrectable, the symbols corrected by
lane position, and the control fields of its ten flits. -/
structure Codeword where
  marker : BitVec 20
  bad : Bool
  corrected : List Nat
  flits : List Byte
deriving DecidableEq, Repr

/-- What a summary scan measured on one eye (R153): the differing decisions at phase -32 to +31 with voltage 0, and at voltage -63 to
+63 with phase 0. -/
structure EyeSweep where
  phase : List Nat
  volt : List Nat
deriving DecidableEq, Repr

/-- What a full scan measured for one block (Table 6.9): the differing decisions of the points measured, in phase-major order;
points beyond the list were not measured. -/
structure ScanBlock where
  errors : List Nat
deriving DecidableEq, Repr

/-- One conversion of the Gauge: the filtered input in nanovolts, from ball to ground on GA0 to GA15, differential on GA16 to GA19
(R320). -/
structure GaugeSample where
  input : Int
deriving DecidableEq, Repr

/-- The tamper sensors (Table 14.8). -/
inductive TamperSensor
  | vglitch | clkmon | therm | mesh | tamperBall
deriving DecidableEq, Repr

/-- A P-384 public key, x and y. -/
structure PubKey where
  x : BitVec 384
  y : BitVec 384
deriving DecidableEq, Repr

/-- The commands, one per row of spec/opcode_table.json. A GBI instruction carries the thread that issues it and the fields
of its format (Table 3.2); the opcode and function code go with the constructor. A Riffle instruction carries the
global channel number, its bits [27:0] and the levels at the 32 balls. Timed events carry what they are about. -/
inductive Instr
  | add (t : Thread) (f : FmtR)
  | sub (t : Thread) (f : FmtR)
  | andR (t : Thread) (f : FmtR)
  | orR (t : Thread) (f : FmtR)
  | xorR (t : Thread) (f : FmtR)
  | andn (t : Thread) (f : FmtR)
  | shl (t : Thread) (f : FmtR)
  | shr (t : Thread) (f : FmtR)
  | sar (t : Thread) (f : FmtR)
  | rol (t : Thread) (f : FmtR)
  | mul (t : Thread) (f : FmtR)
  | mulhu (t : Thread) (f : FmtR)
  | seq (t : Thread) (f : FmtR)
  | slt (t : Thread) (f : FmtR)
  | sltu (t : Thread) (f : FmtR)
  | min (t : Thread) (f : FmtR)
  | max (t : Thread) (f : FmtR)
  | minu (t : Thread) (f : FmtR)
  | maxu (t : Thread) (f : FmtR)
  | mov (t : Thread) (f : FmtR)
  | tagget (t : Thread) (f : FmtR)
  | tagdown (t : Thread) (f : FmtR)
  | addi (t : Thread) (f : FmtI)
  | andi (t : Thread) (f : FmtI)
  | ori (t : Thread) (f : FmtI)
  | xori (t : Thread) (f : FmtI)
  | slti (t : Thread) (f : FmtI)
  | sltui (t : Thread) (f : FmtI)
  | shli (t : Thread) (f : FmtI)
  | shri (t : Thread) (f : FmtI)
  | sari (t : Thread) (f : FmtI)
  | kset (t : Thread) (f : FmtM)
  | kxor (t : Thread) (f : FmtM)
  | ldw (t : Thread) (f : FmtI)
  | ldb (t : Thread) (f : FmtI)
  | ldh (t : Thread) (f : FmtI)
  | ldq (t : Thread) (f : FmtI)
  | stw (t : Thread) (f : FmtI)
  | stb (t : Thread) (f : FmtI)
  | sth (t : Thread) (f : FmtI)
  | stq (t : Thread) (f : FmtI)
  | ldw2 (t : Thread) (f : FmtI)
  | stw2 (t : Thread) (f : FmtI)
  | llw (t : Thread) (f : FmtI)
  | scw (t : Thread) (f : FmtR)
  | ldx (t : Thread) (f : FmtX)
  | stx (t : Thread) (f : FmtX)
  | xrdb (t : Thread) (f : FmtX)
  | xwrb (t : Thread) (f : FmtX)
  | beq (t : Thread) (f : FmtB) (pred : Bool)
  | bne (t : Thread) (f : FmtB) (pred : Bool)
  | blt (t : Thread) (f : FmtB) (pred : Bool)
  | bge (t : Thread) (f : FmtB) (pred : Bool)
  | bltu (t : Thread) (f : FmtB) (pred : Bool)
  | bgeu (t : Thread) (f : FmtB) (pred : Bool)
  | bpoi (t : Thread) (f : FmtB) (pred : Bool)
  | bemp (t : Thread) (f : FmtB) (pred : Bool)
  | jal (t : Thread) (f : FmtJ)
  | jalr (t : Thread) (f : FmtI)
  | branchResolve (t : Thread) (k : Nat)
  | reservoirLoadReturn (l : LoadOf)
  | nop (t : Thread) (f : FmtR)
  | halt (t : Thread) (f : FmtR)
  | yield (t : Thread) (f : FmtR)
  | eret (t : Thread) (f : FmtR)
  | trap (t : Thread) (f : FmtR)
  | waitev (t : Thread) (f : FmtR)
  | tstart (t : Thread) (f : FmtR)
  | tstop (t : Thread) (f : FmtR)
  | xrd (t : Thread) (f : FmtR)
  | xwr (t : Thread) (f : FmtR)
  | time (t : Thread) (f : FmtR)
  | mbrd (t : Thread) (f : FmtR)
  | mbwr (t : Thread) (f : FmtR)
  | fenceLl (t : Thread) (f : FmtR)
  | fenceLs (t : Thread) (f : FmtR)
  | fenceSl (t : Thread) (f : FmtR)
  | fenceSs (t : Thread) (f : FmtR)
  | fenceAll (t : Thread) (f : FmtR)
  | fenceIo (t : Thread) (f : FmtR)
  | otok (t : Thread) (f : FmtR)
  | rifstart (t : Thread) (f : FmtC)
  | rifstop (t : Thread) (f : FmtC)
  | rifpush (t : Thread) (f : FmtC)
  | rifpop (t : Thread) (f : FmtC)
  | rifstatChannel (t : Thread) (f : FmtC)
  | rifstatEngine (t : Thread) (f : FmtC)
  | rifclrChannel (t : Thread) (f : FmtC)
  | rifclrEngine (t : Thread) (f : FmtC)
  | crc32c (t : Thread) (f : FmtC)
  | crc16 (t : Thread) (f : FmtC)
  | crc8 (t : Thread) (f : FmtC)
  | csum16 (t : Thread) (f : FmtC)
  | hash384 (t : Thread) (f : FmtC)
  | ecverify (t : Thread) (f : FmtC)
  | gcmseal (t : Thread) (f : FmtC)
  | gcmopen (t : Thread) (f : FmtC)
  | idsignSign (t : Thread) (f : FmtC)
  | idsignAgree (t : Thread) (f : FmtC)
  | randomBits (t : Thread) (f : FmtC)
  | randomLoadSlot (t : Thread) (f : FmtC)
  | randomEraseSlot (t : Thread) (f : FmtC)
  | jstatPort (t : Thread) (f : FmtC)
  | jstatAttention (t : Thread) (f : FmtC)
  | jstatEntry (t : Thread) (f : FmtC)
  | jsync (t : Thread) (f : FmtC)
  | jdrainClose (t : Thread) (f : FmtC)
  | jdrainReopen (t : Thread) (f : FmtC)
  | jpoison (t : Thread) (f : FmtC)
  | journalWaitLimit (t : Thread)
  | coprocessorComplete (u : CpUnit)
  | shadowComplete (u : CpUnit)
  | win (t : Thread) (f : FmtS)
  | winClose (t : Thread) (f : FmtS)
  | route (t : Thread) (f : FmtS)
  | routeRemove (t : Thread) (f : FmtS)
  | admitClass (t : Thread) (f : FmtS)
  | admitUndefine (t : Thread) (f : FmtS)
  | levrule (t : Thread) (f : FmtS)
  | levruleRemove (t : Thread) (f : FmtS)
  | rifload (t : Thread) (f : FmtS)
  | rifchan (t : Thread) (f : FmtS)
  | rifchanTakeEffect (g : ChanNo)
  | groupjoin (t : Thread) (f : FmtS)
  | groupleave (t : Thread) (f : FmtS)
  | portEnable (t : Thread) (f : FmtS)
  | portDisable (t : Thread) (f : FmtS)
  | laneprof (t : Thread) (f : FmtS)
  | linkprof (t : Thread) (f : FmtS)
  | portprof (t : Thread) (f : FmtS)
  | weirprof (t : Thread) (f : FmtS)
  | jrnlprof (t : Thread) (f : FmtS)
  | leveeprof (t : Thread) (f : FmtS)
  | rifprof (t : Thread) (f : FmtS)
  | fieldprof (t : Thread) (f : FmtS)
  | gaugeprof (t : Thread) (f : FmtS)
  | groupprof (t : Thread) (f : FmtS)
  | timeprof (t : Thread) (f : FmtS)
  | expertOn (t : Thread) (f : FmtS)
  | expertOff (t : Thread) (f : FmtS)
  | xctl (t : Thread) (f : FmtS)
  | retrain (t : Thread) (f : FmtS)
  | scango (t : Thread) (f : FmtS)
  | fpclear (t : Thread) (f : FmtS)
  | lpclear (t : Thread) (f : FmtS)
  | xget (t : Thread) (f : FmtS)
  | entryCloseTimeout (t : Thread) (line : Nat)
  | drainWrite (t : Thread) (line : Nat)
  | protectionWindowEnd (granule : Nat)
  | timerExpire (t : Thread)
  | tfReceive (l : LaneNo) (tf : TrainFrame)
  | signalDetect (l : LaneNo)
  | signalLoss (l : LaneNo)
  | stageTimeout (l : LaneNo) (stage : Nat)
  | adaptComplete (l : LaneNo)
  | runRestartWaitEnd (p : MxNo)
  | codewordReceive (p : MxNo) (cw : Codeword)
  | quickRelockTimeout (p : MxNo)
  | linkFlitReceive (p : MxNo) (code : BitVec 6)
  | fomUpdate (l : LaneNo) (num den : Nat)
  | fomwarnTimeout (l : LaneNo)
  | summaryScan (p : MxNo) (eyes : List (List EyeSweep))
  | fullScanComplete (p : MxNo) (blocks : List ScanBlock)
  | rd (p : MxNo) (k : ReqPkt)
  | wrn (p : MxNo) (k : ReqPkt)
  | wrp (p : MxNo) (k : ReqPkt)
  | flush (p : MxNo) (k : ReqPkt)
  | rsp (p : MxNo) (k : RspPkt)
  | intMsg (p : MxNo) (k : ReqPkt)
  | timePacket (p : MxNo) (k : TimePkt)
  | lcp (p : MxNo) (k : LcpPkt)
  | assign (p : MxNo) (h : Hdr)
  | sealFlitReceive (p : MxNo) (k : SealFlit)
  | sealTimeout (p : MxNo)
  | segmentClose (p : MxNo)
  | packetTransmit (p : MxNo) (vc : Fin 4)
  | replayTimeout (p : MxNo)
  | lcpTimer (p : MxNo)
  | completionTimeout (p : MxNo) (tag : BitVec 10)
  | timeSend (p : MxNo)
  | ewaFlushTimer (n : PbNo) (window : Byte)
  | quotaRefill
  | weirServe (n : PbNo)
  | holdmaxDefer (n : PbNo)
  | agemaxExpire (n : PbNo) (jsn : BitVec 48)
  | entryRetire (n : PbNo) (jsn : BitVec 48)
  | mirrorTimeout (n : PbNo) (jsn : BitVec 48)
  | pareneCycleStart (n : PbNo)
  | beatResponse (n : PbNo) (r : BeatLines) (ad : BitVec 18)
  | responseRelease (n : PbNo)
  | busTimeout (n : PbNo)
  | retryWaitEnd (n : PbNo)
  | cardAddressStrobe (n : PbNo) (ad : BitVec 18) (wr : Bool)
  | straycycGap (n : PbNo)
  | cardSecondAddress (n : PbNo) (l : CardLines)
  | cardDataStrobe (n : PbNo) (l : CardLines)
  | cardDsRise (n : PbNo)
  | tgtrtyExpire (n : PbNo)
  | dlyholdExpire (n : PbNo)
  | deferHintEnd (n : PbNo)
  | busRequest (r : BusReq)
  | grantNotake (n : PbNo)
  | cardTenureEnd (n : PbNo)
  | irqPending (n : PbNo) (level : BitVec 3)
  | iackgapEnd (n : PbNo) (level : BitVec 3)
  | sysrstLow (n : PbNo)
  | sysrstResume (n : PbNo)
  | rstpulseEnd (n : PbNo)
  | observationEnd (n : PbNo)
  | resetWaitEnd (n : PbNo)
  | br (g : ChanNo) (f : BitVec 28) (balls : BitVec 32)
  | await (g : ChanNo) (f : BitVec 28) (balls : BitVec 32)
  | loop (g : ChanNo) (f : BitVec 28) (balls : BitVec 32)
  | ldc (g : ChanNo) (f : BitVec 28) (balls : BitVec 32)
  | emit (g : ChanNo) (f : BitVec 28) (balls : BitVec 32)
  | sample (g : ChanNo) (f : BitVec 28) (balls : BitVec 32)
  | take (g : ChanNo) (f : BitVec 28) (balls : BitVec 32)
  | give (g : ChanNo) (f : BitVec 28) (balls : BitVec 32)
  | giveStamp (g : ChanNo) (f : BitVec 28) (balls : BitVec 32)
  | xfer (g : ChanNo) (f : BitVec 28) (balls : BitVec 32)
  | driveVal (g : ChanNo) (f : BitVec 28) (balls : BitVec 32)
  | driveEn (g : ChanNo) (f : BitVec 28) (balls : BitVec 32)
  | sigRaise (g : ChanNo) (f : BitVec 28) (balls : BitVec 32)
  | sigLower (g : ChanNo) (f : BitVec 28) (balls : BitVec 32)
  | pause (g : ChanNo) (f : BitVec 28) (balls : BitVec 32)
  | riffleIllegal (g : ChanNo) (w : BitVec 32)
  | mirrorOpApply (e : EngNo)
  | limitOnset (i : Fin 16)
  | limitEnd (i : Fin 16)
  | shortFlag (i : Fin 16)
  | turnOff (i : Fin 16)
  | backoffEnd (i : Fin 16)
  | backoffReset (i : Fin 16)
  | readbackSample (i : Fin 16) (ball : Bool)
  | lpContention (i : Fin 16)
  | lpRelease (i : Fin 16)
  | gaugeOutput (k : GaugeSample)
  | hello (p : MxNo) (k : GrpPkt)
  | helloTimer
  | heartbeat (p : MxNo) (k : GrpPkt)
  | heartbeatTimer
  | heartbeatTimeout (m : Fin 4)
  | propose (p : MxNo) (k : GrpPkt)
  | ack (p : MxNo) (k : GrpPkt)
  | commit (p : MxNo) (k : GrpPkt)
  | viewTimeout
  | tprobe (p : MxNo) (k : GrpPkt)
  | tprobeTimer
  | fwdreq (p : MxNo) (k : GrpPkt)
  | fwddata (p : MxNo) (k : GrpPkt)
  | fwdrsp (p : MxNo) (k : GrpPkt)
  | forwardTimeout (rid : Nat)
  | jrec (p : MxNo) (k : GrpPkt)
  | jrecx (p : MxNo) (k : GrpPkt)
  | jout (p : MxNo) (k : GrpPkt)
  | jack (p : MxNo) (k : GrpPkt)
  | leave (p : MxNo) (k : GrpPkt)
  | takeoverWaitEnd (n : PbNo)
  | start
  | abort
  | reset
  | otp
  | loadfifo (bytes : List Byte)
  | mbin (d : Data)
  | mbout
  | phase
  | threadstat (t : Thread)
  | runRequest
  | dozeRequest
  | retainRequest
  | hibernateRequest
  | laneoff (m : BitVec 2)
  | hcbWrite (off : BitVec 16) (bytes : List Byte)
  | mspiRead (off : BitVec 16) (n : Nat)
  | mspiStatus
  | loadVerifyDone
  | failedClearDone
  | dozeEntryComplete
  | lowPowerEntryComplete
  | wakePin
  | wakeAlarm
  | wakeMspi
  | wakeSignalDetect (l : LaneNo)
  | rstLow
  | supplyDrop
  | aonReset
  | mainResetRelease (bootsel : BitVec 2)
  | bootComplete
  | warmStartCheckDone
  | tamperTrip (sensor : TamperSensor)
  | refclkLoss
  | debugChallenge
  | debugLevelRequest (level : Byte) (k : PubKey) (r sg : Nat)
  | debugVerifyDone
  | idcode
  | bypass
  | samplePreload
  | extest
  | cardAsRise (n : PbNo)
  | irqRelease (n : PbNo) (level : BitVec 3)
  | sysrstRise (n : PbNo)
  | cdrLockLoss (l : LaneNo)
  | cdrLock (l : LaneNo)
  | linkFlitsEnd (p : MxNo)
  | otpCommandDone
  | refclkReturn
  | aonResetRelease
  | reservoirClearDone
deriving DecidableEq, Repr

end Sys2Proof
end

