-- ==== Sys2Proof/Decode.lean ====
section
/-! DEFINITION. The command that a word of the opcode table spells: no row of the table gives bits. -/

namespace Sys2Proof

/-- Every row of the table has an empty list of fields, so no word spells a command (log 9). -/
def decodeTableWord (_nbits _w : Nat) : Option Instr := none

end Sys2Proof
end

