-- ==== Sys2Proof/Config.lean ====
section
/-! DEFINITION. What one device fixes and the free values: opaque constants that no proof can look into. -/

namespace Sys2Proof

/-- The free 64-bit values of the model: the n-th one drawn (log 7). Random bits, per-signature secrets, challenges and
every value the spec leaves open come from here. -/
opaque Config.freeBits : Nat → BitVec 64

/-- The identity private key of this device (R359); no command reads it. -/
opaque Config.identityKey : Nat

/-- Whether the random source passes its health test at the n-th use of a free value (R377). -/
opaque Config.healthy : Nat → Bool

/-- What the boundary register captures at the n-th use of a free value (R386; log 97): its length, its order and the levels at the
balls. -/
opaque Config.boundaryBits : Nat → List Bool

/-- The length of IDCERT in bytes and its bytes (Table 15.9), written by Ocolaith. -/
opaque Config.idCertLen : Nat

/-- Byte i of IDCERT (Table 15.9). -/
opaque Config.idCertByte : Nat → BitVec 8

/-- The Reservoir bank of the reorder storage (R27, R232; log 99). -/
opaque Config.reorderBank : Fin 8

/-- How many packets may wait in the VC0 queue of an MX port for one more to have room behind them (R55, R239; log 54). -/
opaque Config.vc0Depth : MxNo → Nat

/-- The endpoint of the fabric behind an MX port to which an MXL address is routed (R106, R176). -/
opaque Config.endpointOf : MxNo → Nat → BitVec 16

end Sys2Proof
end

