-- ==== Sys2Proof/Machine/SeqState.lean ====
section
/-! DEFINITION. State of the sequencer, the Reservoir and the Confluence buffer (Chapters 2 to 5). -/

namespace Sys2Proof.Machine

/-- A sparse table: pairs of a number and a value, numbers strictly rising. -/
abbrev Assoc (α : Type) := List (Nat × α)

/-- Memory as a canonical list of cells (Host.Cell): addresses strictly rising, no byte 0 listed. -/
abbrev Mem := List Host.Cell

/-- The 48-bit counters of a status page, by the field number the page gives them; an unlisted counter is 0. -/
abbrev Counters := List (Nat × Counter)

/-- The error a stored Reservoir word holds in its 80 bits (R27). -/
inductive MemErr
  | single
  | multi
deriving DecidableEq, Repr

/-- The Reservoir (R32): data bytes by byte address, tag bytes by word number, latent errors by word number, the
executable pages (R30) and the counters per bank (R27). -/
structure Reservoir where
  data : Mem
  tags : Mem
  errs : Assoc MemErr
  pages : List Nat
  ce : Vector (BitVec 64) 8
  ue : Vector (BitVec 64) 8
deriving DecidableEq, Repr

/-- The registers of a thread; `waits` names the producer a register still waits for, 0 for none (R80). -/
structure RegFile where
  regs : Vector Word 32
  waits : Vector Nat 32
deriving DecidableEq, Repr

/-- What a conditional branch compares (Table 3.7). -/
inductive BrCond
  | eq | ne | lt | ge | ltu | geu | poi | emp
deriving DecidableEq, Repr

/-- A source operand captured by an unresolved branch: the awaited producer, or 0 and the word. -/
structure Operand where
  id : Nat
  val : Word
deriving DecidableEq, Repr

/-- An unresolved conditional branch (R83): its operands, the prediction, and the IA of the path not predicted. -/
structure Branch where
  id : Nat
  cond : BrCond
  a : Operand
  b : Operand
  pred : Bool
  other : BitVec 24
deriving DecidableEq, Repr

/-- An effect that a load leaves to its commit (R87, R96): correcting a word, counting an uncorrectable error in it,
setting the reservation on a granule. -/
inductive Deferred
  | correct (word : Nat)
  | uncorrectable (word : Nat)
  | reserve (granule : Nat)
deriving DecidableEq, Repr

/-- The size of a Reservoir access. -/
inductive LdKind
  | word | byte | half | quad | pair | linked
deriving DecidableEq, Repr

/-- A Reservoir load issued and not yet committed: its producer number, size and byte address. -/
structure Load where
  id : Nat
  kind : LdKind
  addr : Nat
deriving DecidableEq, Repr

/-- What an instruction in a commit queue is still to do before it commits (R82): nothing; a branch to resolve (R83); a load to
return, or returned and with the effects it leaves to its commit (R87, R96); a started PURE operation, by its number, to
complete (log 21); a PURE operation to dispatch (R89, R90); an instruction to start at its commit (R50); an exception to raise
at its commit (R61, R91). -/
inductive CqWhat
  | done
  | branch (b : Branch)
  | load (l : Load)
  | returned (l : Load) (eff : List Deferred)
  | pure (op : Nat)
  | want
  | start
  | fault (cause : BitVec 6) (info : BitVec 64)
deriving DecidableEq, Repr

/-- An instruction in its thread's commit queue (R82): its number, from which the numbers that its registers await count on, its
IA and encoding, and the registers as they stood before it (R85). -/
structure CqEntry where
  id : Nat
  ia : BitVec 24
  enc : BitVec 36
  ckpt : RegFile
  what : CqWhat
deriving DecidableEq, Repr

/-- The barriers that wait (Table 5.4): for older loads, for older stores performed, for older stores completed. -/
structure FenceNeeds where
  loads : Bool
  stores : Bool
  io : Bool
deriving DecidableEq, Repr

/-- What a thread waits in. -/
inductive Wait
  | none
  | waitev (wd : Reg) (mask : BitVec 13)
  | mbwr (w : Word)
  | fence (k : FenceNeeds)
  | otok (d : BitVec 8)
deriving DecidableEq, Repr

/-- The states of a thread as THREADSTAT reports them (Table 15.9). -/
inductive RunState
  | notStarted | running | halted | stoppedExc
deriving DecidableEq, Repr

/-- One sequencer thread. `cq` is its commit queue, oldest first (R82); `fetchStop` the unresolved branch until whose resolution
its fetch stops (R83). -/
structure ThreadSt where
  rf : RegFile
  ia : BitVec 24
  run : RunState
  statCause : BitVec 6
  xia : BitVec 24
  xcause : BitVec 6
  xinfo : BitVec 64
  handler : BitVec 32
  timercmp : BitVec 64
  hmode : Bool
  yielded : Bool
  resv : Option Nat
  scFails : Nat
  wait : Wait
  cq : List CqEntry
  fetchStop : Option Nat
  stopping : Bool
  otok : Assoc (Byte × Byte)
  issued : Counter
  mispredict : Counter
  squashed : Counter
deriving DecidableEq, Repr

/-- One part of a store or unit write: a word, its data at their byte places, the byte enables and the tag. -/
structure StorePart where
  word : Nat
  data : Data
  be : BitVec 8
  tag : Byte
deriving DecidableEq, Repr

/-- An operation running in a coprocessor unit (R88 to R95). Result k goes to producer number id + k. `writes` is what it
writes to the Reservoir when it completes (R451), `reads` the words it read, whose errors count when it is not squashed
(R27, R95), `latency` the cycles of Table 4.4. -/
structure CpOp where
  id : Nat
  thread : Thread
  unit : CpUnit
  effect : Bool
  shadow : Bool
  results : List Word
  writes : List StorePart
  reads : List Nat
  latency : Nat
deriving DecidableEq, Repr

/-- A JSYNC or JDRAIN that waits (R278): the entries, by port and JSN, that were recorded before its dispatch. -/
structure JWait where
  id : Nat
  thread : Thread
  port : PbNo
  jsns : List Nat
deriving DecidableEq, Repr

/-- The four external accesses (Table 3.6). -/
inductive ExtKind
  | ldx | stx | xrdb | xwrb
deriving DecidableEq, Repr

/-- A part of a request that has been answered: its first byte relative to the address, its length, code, hint and the
words it spans (R168), with the latent errors of its words, by index, as they wait in reorder storage (R27, R232). -/
structure Part where
  off : Nat
  len : Nat
  code : BitVec 4
  hint : BitVec 16
  words : List Word
  errs : Assoc MemErr := []
deriving DecidableEq, Repr

/-- An external access in the sequencer's Eddy (R115, R116). Its status goes to producer `id`, LDX data to `id + 1`.
`ready` says that all its parts are answered, `performed` that its status is written, `completed` that an external
store has also taken effect (R106). -/
structure Ext where
  id : Nat
  thread : Thread
  route : BitVec 2
  kind : ExtKind
  posted : Bool
  addr : Nat
  len : Nat
  rdst : Nat
  odom : Byte
  parts : List Part
  ready : Bool
  performed : Bool
  completed : Bool
deriving DecidableEq, Repr

/-- One word of a Confluence entry: the bytes stored and their enables, whether a whole-word store has set it, and the
tag record (R109, R110). -/
structure CWord where
  data : Data
  be : BitVec 8
  whole : Bool
  tag : Byte
deriving DecidableEq, Repr

/-- An entry of the Confluence buffer (R109): one 64-byte line of one thread. -/
structure CEntry where
  thread : Thread
  line : Nat
  words : Vector CWord 8
  isOpen : Bool
  draining : Bool
deriving DecidableEq, Repr

/-- An open LLW/SCW protection window (R129). -/
structure Prot where
  granule : Nat
  owner : Thread
deriving DecidableEq, Repr

/-- Posted writes that a thread has outstanding to one MXL endpoint through an MX port (R106): the address of the latest,
and the flush of FENCE.IO sent behind them. -/
structure PostedOut where
  thread : Thread
  port : MxNo
  addr : Nat
  flush : Option Nat
deriving DecidableEq, Repr

/-- The sequencer and what its threads share. `lastSel` is the thread selected last (R79), `slot` the instruction that
still belongs to that selection's cycle, by thread and IA (R81), `served` the thread that each unit served last (R89). -/
structure Seq where
  threads : Vector ThreadSt 8
  lastSel : Thread
  slot : Option (Thread × BitVec 24)
  served : Vector Thread 7
  ops : List CpOp
  jwaits : List JWait
  shadow : Vector Counter 7
  shadowBusy : Vector Counter 7
  sticky : BitVec 13
  ext : List Ext
  postedOut : List PostedOut
  conf : List CEntry
  prot : List Prot
  protQueue : List Prot
deriving DecidableEq, Repr

end Sys2Proof.Machine
end

