-- ==== Sys2Proof/Machine/BusState.lean ====
section
/-! DEFINITION. State of set-up, requests, the MX transaction layer, the Parene ports, Weir and the journal
(Chapters 3, 7, 8, 9 and 10). -/

namespace Sys2Proof.Machine

/-- One subsystem instance (R7 to R12): unlocked or not, the selected profile, and every field by 64 x page + field. -/
structure Subsys where
  unlocked : Bool
  profile : Nat
  fields : Assoc (BitVec 64)
deriving DecidableEq, Repr

/-- The direction of a window (Table 3.13). -/
inductive WinDir
  | inbound | outbound
deriving DecidableEq, Repr

/-- The width mode of a window (Table 2.7). -/
inductive Width
  | narrow | pack4 | wide18
deriving DecidableEq, Repr

/-- The byte-order option of a window (Table 2.8). -/
inductive ByteOrder
  | none | swap16 | rev16
deriving DecidableEq, Repr

/-- A defined window (Table 3.13). -/
structure Win where
  base : Nat
  pbase : Nat
  size : Nat
  port : PbNo
  io : Bool
  width : Width
  order : ByteOrder
  trust : BitVec 2
  device : Bool
  ewa : BitVec 2
  jrnl : Bool
  hold : Bool
  pairAtomic : Bool
  dir : WinDir
  mxport : MxNo
  odom : Byte
deriving DecidableEq, Repr

/-- An enabled route (Table 3.14); routes are kept by 16 x port + 2 x level + direction. -/
structure Route where
  mxport : MxNo
  vector : Byte
  isLocal : Bool
  addr : BitVec 48
deriving DecidableEq, Repr

/-- An enabled Levee source rule (Table 14.5). -/
structure LevRule where
  onMx0 : Bool
  onMx1 : Bool
  trust : BitVec 2
  read : Bool
  write : Bool
  keepOrigin : Bool
  srcLo : BitVec 16
  srcHi : BitVec 16
deriving DecidableEq, Repr

/-- Where a request entered: an MX port (with the count of link drops of the port then, so that a response after a drop
is recognised, R185), the sequencer's route 00, or a group peer (R346). -/
inductive Origin
  | mx (p : MxNo) (gen : Nat)
  | thread (t : Thread) (ext : Nat)
  | peer (m : Fin 4)
deriving DecidableEq, Repr

/-- A request of the stages of Table 1.3. `words` are the data words of the spanned MXL words. -/
structure Req where
  id : Nat
  org : Origin
  src : BitVec 16
  tag : BitVec 10
  kind : RqKind
  addr : Nat
  len : Nat
  pair : Bool
  retx : Bool
  odom : Byte
  gen : Byte
  seq : Byte
  wseq : BitVec 32
  words : List Word
  trust : BitVec 2
  wno : Nat
  win : Win
deriving DecidableEq, Repr

/-- The requester of an order-domain entry, of R258 and of a journal entry: the SRC of an MXL request or a thread. -/
inductive Requester
  | src (id : BitVec 16)
  | thr (t : Thread)
deriving DecidableEq, Repr

/-- An order-domain entry (R245); the list of them is in the order of use, least recent first. -/
structure OrdEntry where
  who : Requester
  dom : Byte
  gen : Byte
  next : Byte
  broken : Bool
  port : PbNo
deriving DecidableEq, Repr

/-- A Weir class (Table 3.15) with its bucket in thousandths of a cycle (R255). -/
structure WeirClass where
  refuse : Bool
  deny : Bool
  prio : BitVec 3
  origin : BitVec 4
  anyOrigin : Bool
  minTrust : BitVec 2
  rate : BitVec 16
  depth : BitVec 8
  hintCap : BitVec 16
  bucket : Nat
deriving DecidableEq, Repr

/-- A request that waits to be served (check 9 of Table 10.2): its class with the PRIO and HINTCAP the class had (R17), the
thousandths it took, the journal lines and requester entry it holds reserved, and the Plant Time of its arrival. -/
structure Waiting where
  req : Req
  cls : Fin 8
  prio : BitVec 3
  hintCap : BitVec 16
  took : Nat
  lines : Nat
  reserved : Bool
  arrived : Nat
deriving DecidableEq, Repr

/-- A block of a request (R195, R226): first Parene word, beats, and the bytes of the request it carries. -/
structure Block where
  start : Nat
  beats : Nat
  off : Nat
  len : Nat
deriving DecidableEq, Repr

/-- The outcome of a cycle that the device masters (Table 8.7). -/
inductive CycOutcome
  | ok | targetError | parity | timeout
deriving DecidableEq, Repr

/-- A served request of a port: the blocks still to run, the beats read so far for the running block, the worst mark
result of that block, RETRY answers in a row for the word at hand, whether the requester is answered already, and the
JSN of its journal entry. `verify` marks the readback of R276. -/
structure Job where
  req : Req
  blocks : List Block
  got : List (Nat × BitVec 18)
  markBad : Bool
  retries : Nat
  answered : Bool
  jsn : Option Nat
  verify : Bool
  differs : Bool
deriving DecidableEq, Repr

/-- A cycle that the device masters: of the first job, or an IACK cycle for a level and its route (R212, R242). -/
inductive CycFor
  | job
  | iack (level : BitVec 3) (r : Route)
deriving DecidableEq, Repr

/-- The mastered cycle in progress: what for, the two address words that stood on AD at its AS# falls (R189), the word of the current beat, beats left with it, whether DS# waits under a
HOLD retry (R199), whether response lines are still to be released (R191), and how the cycle ends when they are. -/
structure MCycle where
  what : CycFor
  aw : BitVec 18 × BitVec 18
  word : Nat
  left : Nat
  holdWait : Bool
  release : Bool
  ending : Option CycOutcome
deriving DecidableEq, Repr

/-- The start-up and reset states of a port (R206, R207): `resetWait` waits for the observation and the 1 ms after the port's
own reset pulse, `observedWait` for the 1 ms alone, `observing` for the observation alone. -/
inductive PbPhase
  | off | pulse | resetWait | observedWait | observing | normal
deriving DecidableEq, Repr

/-- External reset of a port (R208): none, SYSRST# low, or the 1 ms after its rise. -/
inductive ExtReset
  | none | low | wait
deriving DecidableEq, Repr

/-- What the device drives on a port (Table 8.2); `none` is high impedance or released. Open-drain lines are `true` when
driven low; `turn` are the levels of OE# and DIR that the last turnaround went through, in order (R205). -/
structure PbPins where
  oe : Option Bool
  dir : Option Bool
  turn : List (Bool × Bool)
  ad : Option (BitVec 18)
  asLow : Bool
  dsLow : Bool
  wrLow : Bool
  ackLow : Bool
  rtyLow : Bool
  berrLow : Bool
  irqLow : BitVec 8
  iack : Option Bool
  bg : Option Bool
  sysrstLow : Bool
deriving DecidableEq, Repr

/-- How the port treats a claimed card cycle (R203, R234, R368): as an access of its own, as the collection of a held result, or
with RETRY, counted in DELAYED or not, or ERROR on every beat. -/
inductive CardMode
  | access
  | collect
  | retry (counted : Bool)
  | refuse
deriving DecidableEq, Repr

/-- A card cycle after its second address word (R190, R202). `win` is the outbound window that claims it, `idx` the beats
done, `data` the words captured of a write. -/
structure CardCycle where
  space : BitVec 2
  addr : Nat
  beats : Nat
  wr : Bool
  idx : Nat
  win : Option (Nat × Win)
  mode : CardMode
  data : List (BitVec 18)
  dsLow : Bool
deriving DecidableEq, Repr

/-- The target and watchdog state machine of R190; of a cycle that is not decoded only DS# is followed. -/
inductive TgtState
  | idle
  | first (w : BitVec 18) (wr : Bool)
  | gap (w : BitVec 18) (wr : Bool)
  | data (c : CardCycle)
  | stray (dsLow : Bool)
deriving DecidableEq, Repr

/-- One MXL request of a card access (R228): its range, its words, whether it is a pair (R124), whether it has been issued, the
parts answered, and whether it has ended. -/
structure CardReq where
  addr : Nat
  len : Nat
  words : List Word
  pair : Bool
  issued : Bool
  parts : List Part
  done : Bool
deriving DecidableEq, Repr

/-- A card access to MXL (R203, R229): the cycle it serves, the words a write captured, its requests, and whether a beat of
it was answered RETRY, so that its result is held. -/
structure CardAccess where
  id : Nat
  space : BitVec 2
  addr : Nat
  beats : Nat
  wr : Bool
  data : List (BitVec 18)
  wno : Nat
  win : Win
  reqs : List CardReq
  delayed : Bool
deriving DecidableEq, Repr

/-- A cycle that is answered RETRY until the hint of a DEFER has passed, at `til` in Plant Time; `last` is the word of
its last beat (R229, R234). -/
structure DeferHold where
  til : Nat
  space : BitVec 2
  addr : Nat
  beats : Nat
  wr : Bool
  last : Nat
deriving DecidableEq, Repr

/-- An early-acknowledged outbound write (R119): its number in order, its window, address and port, and the flush that follows
it. -/
structure EwaOut where
  id : Nat
  wno : Nat
  addr : Nat
  mxport : MxNo
  flush : Option Nat
deriving DecidableEq, Repr

/-- One Parene port with its Weir instance and its journal numbering. `enabled` says that PORT ENABLE is in force and the
pins are, or are to be, released; `recorded` that an enable is recorded on a group port (R335); `disabling` that the pins go
to high impedance when the cycle in progress ends (R71), `releasing` when its beat ends (R343); `tenOver` that the tenure
is counted in TENOVER (R211); `gen0` is the GEN of the domains not in `otok` (R249). -/
structure Pb where
  enabled : Bool
  recorded : Bool
  phase : PbPhase
  disabling : Bool
  releasing : Bool
  ext : ExtReset
  pins : PbPins
  inForce : Assoc (BitVec 64)
  rstPulse : Nat
  cyc : Option MCycle
  retryWait : Bool
  jobs : List Job
  waiting : List Waiting
  br : Bool
  granted : Bool
  tenure : Option Nat
  tenOver : Bool
  abortNext : Bool
  ownSince : Nat
  irqPend : BitVec 8
  iackGap : BitVec 8
  irqDrive : BitVec 8
  irqRec : BitVec 8
  tgt : TgtState
  acc : Option CardAccess
  deferHold : List DeferHold
  ewaOut : List EwaOut
  gen0 : Byte
  otok : Assoc (Byte × Byte)
  cnt : Counters
  lateLast : BitVec 36
  classes : Vector (Option WeirClass) 8
  wcnt : Counters
  jsn : Nat
  jclosed : Bool
deriving DecidableEq, Repr

/-- The states of a journal entry (R267). -/
inductive JState
  | recorded | running | final
deriving DecidableEq, Repr

/-- A journal entry (Table 10.12), own or mirrored. `answers` are the requests that wait for its outcome (R269, R271);
`recAck` and `outAck` are the mirror peers that have acknowledged its record and outcome (R275); `lines` are
the lines of the journal region that hold it, in order (R265; log 98). -/
structure JEntry where
  jsn : Nat
  port : PbNo
  mirrored : Bool
  who : Requester
  hasWseq : Bool
  wseq : BitVec 32
  addr : Nat
  len : Nat
  window : Nat
  pstart : Nat
  trec : BitVec 64
  words : List Word
  state : JState
  jout : BitVec 4
  answers : List Req
  recAck : BitVec 4
  outAck : BitVec 4
  lines : List Nat
deriving DecidableEq, Repr

/-- An entry of the requester table (R265, R273); the table is in the order of use, least recent first. -/
structure JReqr where
  src : BitVec 16
  floor : Option (BitVec 32)
deriving DecidableEq, Repr

/-- A record of the attention queue (R277). -/
structure Attention where
  jsn : Nat
  jout : BitVec 4
  port : PbNo
deriving DecidableEq, Repr

/-- The Oxbow journal; `topJsn` are the highest JSNs mirrored here, 0 for none (R349). -/
structure Journal where
  entries : List JEntry
  reqrs : List JReqr
  attention : List Attention
  topJsn : Vector Nat 4
  cnt : Counters
deriving DecidableEq, Repr

/-- A packet as the transmitter queues it or a receiver holds it. -/
inductive Pkt
  | rq (kind : RqKind) (k : ReqPkt)
  | rsp (k : RspPkt)
  | time (k : TimePkt)
  | lcp (k : LcpPkt)
  | assign (h : Hdr)
  | grp (k : GrpPkt)
deriving DecidableEq, Repr

/-- A queued packet with its place in the order in which the port's packets were queued (R174), the thread whose request it is
(R102), and the latent errors of its data words, by index (R27, R232). -/
structure QPkt where
  ord : Nat
  pkt : Pkt
  thr : Option Thread
  errs : Assoc MemErr := []
deriving DecidableEq, Repr

/-- A packet of the replay buffer (R177). -/
structure Unacked where
  psn : BitVec 12
  flits : Nat
  pkt : Pkt
deriving DecidableEq, Repr

/-- Who issued a request on an MX port; a card's with its domain and generation (R249). -/
inductive ReqOwner
  | ext (id : Nat)
  | card (n : PbNo) (access : Nat) (part : Nat) (dom gen : Byte)
  | ewaFlush (n : PbNo) (id : Nat)
  | fenceFlush (t : Thread) (id : Nat)
deriving DecidableEq, Repr

/-- A non-posted request the device has outstanding as requester (R167, R170). -/
structure OutReq where
  tag : BitVec 10
  owner : ReqOwner
  read : Bool
  addr : Nat
  len : Nat
  parts : List Part
deriving DecidableEq, Repr

/-- A request outstanding at the device as target (R167, R175); for a posted write or INT `tag` is not meant. -/
structure InReq where
  src : BitVec 16
  tag : BitVec 10
  id : Nat
  posted : Bool
deriving DecidableEq, Repr

/-- A flush, or an INT with its packet, that waits for the posted work its SRC sent before it on the port (R175), or a WRP behind a
waiting INT of its SRC: the numbers of the work still to complete. -/
structure FlushWait where
  id : Nat
  src : BitVec 16
  tag : BitVec 10
  before : List Nat
  int : Option ReqPkt
  wrp : Option ReqPkt
deriving DecidableEq, Repr

/-- A TXN flit: its control field and its seven words (Tables 6.4 and 7.2). -/
structure Flit where
  ctl : Byte
  words : List Word
deriving DecidableEq, Repr

/-- A transmit segment as it left the port: its seal flit and the bytes its words were encrypted to (R183, Table 7.11). -/
structure Sealed where
  flit : SealFlit
  cipher : List Byte
deriving DecidableEq, Repr

/-- A link key with its salt and epoch, and the highest SEGNO verified under it (R379, R381). -/
structure LinkKey where
  key : BitVec 256
  salt : BitVec 32
  epoch : BitVec 2
  high : Option (BitVec 64)
deriving DecidableEq, Repr

/-- The transaction layer of one MX port. `rxPsn` is the next PSN to deliver, `nak` says that a missing packet is waited for;
`seg` are the flits of the open transmit segment, `segMax` its SEALFLITS and `lastSealed` the last segment sent; `held` are the
packets of the open receive segment, each with the Plant Time of its arrival; `lastLcp` and `lastTime` are the last LCP and TIME packet sent. -/
structure Mxt where
  up : Bool
  gen : Nat
  encTx : Bool
  encRx : Bool
  fixed : Bool
  epid : BitVec 16
  ordNext : Nat
  queues : Vector (List QPkt) 4
  unacked : List Unacked
  txPsn : BitVec 12
  rxPsn : BitVec 12
  nak : Bool
  ackOwed : Bool
  replays : Nat
  credit : Vector (BitVec 12) 4
  used : Vector (BitVec 12) 4
  freed : Vector (BitVec 12) 4
  told : Vector (BitVec 12) 4
  reqs : List OutReq
  heldTags : List (BitVec 10 × Nat)
  ins : List InReq
  flushes : List FlushWait
  txKey : Option LinkKey
  nextKey : Option LinkKey
  rxKeys : Vector (Option LinkKey) 4
  segno : BitVec 64
  seg : List Flit
  segMax : Nat
  lastSealed : Option Sealed
  held : List (Pkt × BitVec 64)
  encMismatch : Bool
  authTimes : List Nat
  echoTx : BitVec 64
  echoRx : BitVec 64
  lastLcp : Option LcpPkt
  lastTime : Option TimePkt
  cnt : Counters
deriving DecidableEq, Repr

end Sys2Proof.Machine

namespace Sys2Proof

/-- The bytes that the words of a flit put into AES-256-GCM (R183): the spec does not say in which order the bits of a word enter the
cipher (log 30). -/
opaque Config.wordBytes : List Word → List Byte

end Sys2Proof
end

