-- ==== Sys2Proof/Machine/GroupState.lean ====
section
/-! DEFINITION. State of the bridge group, Plant Time, the security unit and debug (Chapters 13 and 14). -/

namespace Sys2Proof.Machine

/-- What this member knows of a configured index (R338, R339, R342): its last HELLO since GROUPJOIN, whether it agrees, whether
heartbeats of it came within HBTIMEOUT, whether it has sent LEAVE since (R349), the epoch of the last one, the Plant Time of the last one that confirmed the installed
view, whether its fabric source is locked, its time state, the stewards it named, and the disagreement reasons already
reported. -/
structure Peer where
  hello : Option HelloBody
  agrees : Bool
  alive : Bool
  left : Bool
  lastEpoch : BitVec 32
  confAt : Option Nat
  locked : Bool
  tstate : BitVec 3
  stew : BitVec 8
  svalid : BitVec 4
  reported : BitVec 8
deriving DecidableEq, Repr

/-- This member's proposal in progress (R340). -/
structure Proposal where
  epoch : BitVec 32
  mask : BitVec 4
  acks : BitVec 4
deriving DecidableEq, Repr

/-- A request forwarded to a steward (R346, R347). -/
structure Forward where
  rid : Nat
  req : Req
  parts : List Part
deriving DecidableEq, Repr

/-- A FWDREQ whose data words are still to come in FWDDATA. -/
structure FwdIn where
  sender : Fin 4
  tag : BitVec 10
  kind : RqKind
  pkt : ReqPkt
deriving DecidableEq, Repr

/-- A JREC whose data words are still to come in JRECX. -/
structure JrecIn where
  sender : Fin 4
  eh0 : Data
  eh1 : Data
  eh2 : Data
  eh3 : Data
  eh4 : Data
  words : List Word
deriving DecidableEq, Repr

/-- The bridge group (R332 to R351). `admitted` says that a view with quorum has been installed since GROUPJOIN; `takeover n` is
the planned end of step 4 of Table 13.5 in Plant Time; `lostBy n` is the steward that left an unmirrored journalled port,
`some none` where it left before this member joined (R351); `mirrorGot` are the ports whose mirrored records this member has
received since it joined the view, `mirrorMiss` those with a record it had no room for (R336, R345); `inForce` are the GROUP
fields as of the last heartbeat (R358). -/
structure Group where
  joined : Bool
  index : BitVec 2
  n1 : BitVec 2
  prio : BitVec 4
  gaddr : BitVec 48
  gid : BitVec 16
  peers : Vector Peer 4
  epoch : BitVec 32
  view : BitVec 4
  admitted : Bool
  highEpoch : BitVec 32
  ackEpoch : BitVec 32
  ackMask : BitVec 4
  proposal : Option Proposal
  fenced : Bool
  stewards : Vector (Option (BitVec 2)) 4
  takeover : Vector (Option Nat) 4
  lostBy : Vector (Option (Option (BitVec 2))) 4
  mirrorGot : BitVec 4
  mirrorMiss : BitVec 4
  inForce : Assoc (BitVec 64)
  forwards : List Forward
  fwdIn : List FwdIn
  jrecIn : List JrecIn
  lastDis : BitVec 8
  cnt : Counters
deriving DecidableEq, Repr

/-- Plant Time and its discipline (R352 to R356). `offsets` holds the last four, newest first; `fabric` those to the link
peer; `steer` is the offset still to be slewed and `slewFrac` what SLEWMAX has added up, in millionths of 1 ns; `inForce` are
the TIME fields as of the last probe (R358). -/
structure TimeSt where
  now : BitVec 64
  offsets : List Int
  fabric : List Int
  reference : BitVec 2
  state : BitVec 3
  probesLost : Nat
  firstSeen : Bool
  sourcePort : Option MxNo
  steer : Int
  slewFrac : Nat
  tsteps : Counter
  inForce : Assoc (BitVec 64)
  echoTx : BitVec 64
  echoRx : BitVec 64
deriving DecidableEq, Repr

/-- A program key slot KS0 to KS7 (R372). -/
structure KeySlot where
  key : BitVec 256
  salt : BitVec 32
  uses : BitVec 64
deriving DecidableEq, Repr

/-- LIFECYCLE (Table 14.2). -/
inductive Lifecycle
  | provision | field | retired
deriving DecidableEq, Repr

/-- The fuses (Table 14.2). `idWrap` says that the wrapped identity key still exists (R361); `pufHelp` and `idCert` that Ocolaith has
written the PUF helper data and the certificate (log 4). -/
structure Otp where
  life : Lifecycle
  keyHash : Vector (Option (BitVec 384)) 4
  revoked : BitVec 4
  secVerMin : Nat
  dbgHash : Option (BitVec 384)
  tamperResp : BitVec 5
  pufHelp : Bool
  idWrap : Bool
  idCert : Bool
deriving DecidableEq, Repr

/-- A debug level request that the security unit verifies (R384). -/
structure DebugReq where
  level : Byte
  key : PubKey
  r : Nat
  sg : Nat
  challenge : BitVec 384
deriving DecidableEq, Repr

/-- What the TAP has last been given (R386). -/
inductive TapInst
  | idcode | bypass | sample | extest
deriving DecidableEq, Repr

/-- The security unit, Levee's counters and the debug block. `refusals` are the consecutive refusals of a debug level and `holdTil` is
the Plant Time before which no challenge is offered (R384); `tdo` are the bits that the last data register scan shifted out. -/
structure Sec where
  otp : Otp
  slots : Vector (Option KeySlot) 8
  drbg : Bool
  identity : Bool
  dbgLevel : BitVec 2
  challenge : Option (BitVec 384)
  dbgReq : Option DebugReq
  refusals : Nat
  holdTil : Nat
  tap : TapInst
  tdo : List Bool
  tamperRec : BitVec 5
  tamperTime : BitVec 64
  tampers : Counter
  leftEval : BitVec 7
  cnt : Counters
  authTrips : Vector Counter 2
deriving DecidableEq, Repr

end Sys2Proof.Machine
end

