-- ==== Sys2Proof/Machine/PinState.lean ====
section
/-! DEFINITION. State of the lanes, the Riffle engines, the field pins, the Gauge, power, the HCB and the loader
(Chapters 6, 11, 12 and 15). -/

namespace Sys2Proof.Machine

/-- One physical lane in bring-up and link up (R140, R141, R148, R150). `stage` is 1 to 3, or 4 once stage 3 is finished;
`taps` are the FFE values in use and `status` the answer due to the peer's last request; `ctle` is the peaking code in use and
`dfe` the 12 DFE taps (R149; log 93 for their width). -/
structure Lane where
  stage : Nat
  signal : Bool
  locked : Bool
  markers : Nat
  sense : Bool
  inverted : Bool
  lastTf : Option (BitVec 32)
  sameTf : Nat
  switched : Bool
  rxReady : Bool
  peerReady : Bool
  taps : Vector Int 5
  status : BitVec 2
  fom : Byte
  eyeH : Byte
  eyeW : Byte
  ctle : BitVec 4
  dfe : Vector Byte 12
deriving DecidableEq, Repr

/-- A full eye scan in progress (R154 to R156): `started` and `stopped` are the Plant Times at which it started and was stopped,
`foms` the FOM of the lanes since then, newest first, each with its Plant Time and the lane's place in the port. -/
structure Scan where
  started : Nat
  stopped : Option Nat
  foms : List (Nat × Nat × Byte)
  addr : Nat
  lanes : List Nat
  eyes : List Nat
  phMin : Int
  phStep : Nat
  np : Nat
  vMin : Int
  vStep : Nat
  nv : Nat
  dwell : Nat
  rate : BitVec 2
  result : BitVec 2
deriving DecidableEq, Repr

/-- The LINK flits a port sends for 1 us (R147, R160). -/
inductive LinkSend
  | relock | retrain
deriving DecidableEq, Repr

/-- The lane layer of one MX port. -/
structure LanePort where
  powered : Bool
  stage : Nat
  lanes : Vector Lane 4
  rate : BitVec 2
  width : BitVec 2
  correct : Bool
  reversed : Bool
  agreed : Bool
  failed : BitVec 3
  waiting10 : Bool
  relocking : Bool
  sending : Option LinkSend
  badRun : Nat
  goodRun : Nat
  lastFail : Byte
  fomLow : BitVec 4
  scanStat : BitVec 2
  scan : Option Scan
  inForce : Assoc (BitVec 64)
  cnt : Counters
deriving DecidableEq, Repr

/-- The fields of a RIFCHAN (Table 11.7). -/
structure RCfg where
  entry : BitVec 7
  enable : Bool
  ebase : BitVec 5
  ecount : Nat
  sbase : BitVec 5
  scount : Nat
  dbase : BitVec 5
  dcount : Nat
  tpin : BitVec 5
  txMsb : Bool
  rxMsb : Bool
  join : BitVec 2
  stopHold : Bool
  rbCheck : Bool
  attnMask : BitVec 8
deriving DecidableEq, Repr

/-- One Riffle channel. `change` are the RIFCHANs that wait for the channel's next slot, oldest first (R308), `turns` the turns a
PAUSE still has to spend. -/
structure RChan where
  cfg : RCfg
  change : List RCfg
  faulted : Bool
  pc : BitVec 7
  c0 : BitVec 16
  c1 : BitVec 16
  tf : BitVec 64
  tp : Nat
  rf : BitVec 64
  rp : Nat
  txq : List Word
  rxq : List Word
  flags : BitVec 7
  vals : BitVec 32
  ens : BitVec 32
  turns : Option Nat
  waiting : Bool
deriving DecidableEq, Repr

/-- What CP0's mirror in the SEQ island shows of a channel (R423): the words of its TX queue, those of its RX queue, its flags and its
PC. -/
structure ChanMirror where
  tx : Nat
  rx : List Word
  flags : BitVec 7
  pc : BitVec 7
deriving DecidableEq, Repr

/-- A queue operation of CP0 on its way to the engine (R423). -/
inductive QueueOp
  | push (g : ChanNo) (w : Word)
  | pop (g : ChanNo)
deriving DecidableEq, Repr

/-- One Riffle engine: the divider and wheel in force (R310), the next engine cycle, CYCLES, the store, the flags. -/
structure REng where
  running : Bool
  divider : Nat
  wheel : Nat
  next : Nat
  cycles : Counter
  store : Vector (BitVec 32) 128
  flags : BitVec 8
  ops : List QueueOp
deriving DecidableEq, Repr

/-- FP protection states (Table 12.2). -/
inductive FpProt
  | normal | limit | off | latched
deriving DecidableEq, Repr

/-- One FP pin: protection state, FPSHORT bit, next backoff in ms, consecutive turn-offs, whether SHORT has been flagged in
this limit, and the channel whose drive change is to be checked by readback (R316). -/
structure FpPin where
  prot : FpProt
  short : Bool
  backoff : Nat
  turnOffs : Nat
  readback : Option ChanNo
deriving DecidableEq, Repr

/-- One LP pin: LPOFF, and whether the present contention is flagged (R318). -/
structure LpPin where
  off : Bool
  contending : Bool
deriving DecidableEq, Repr

/-- The field pins (Chapter 12); `fpOn` and `lpOn` say which group is enabled (R71). -/
structure Field where
  fpOn : Bool
  lpOn : Bool
  fp : Vector FpPin 16
  lp : Vector LpPin 16
  cnt : Counters
deriving DecidableEq, Repr

/-- The Gauge: the visit in progress with its number of outputs so far and the CFG it uses, the scan mask in force,
NEXTSEQ, SUSPECT due, alarms, the last outputs. -/
structure Gauge where
  visit : Option Nat
  made : Nat
  cfg : BitVec 64
  mask : BitVec 20
  seq : BitVec 24
  suspect : Bool
  alarms : BitVec 20
  last : Vector Data 20
  overrun : Counter
deriving DecidableEq, Repr

/-- The power modes (Table 15.4). -/
inductive PMode
  | run | doze | retain | hibernate
deriving DecidableEq, Repr

/-- What a wake source is (R402), by the code that PWRSTAT shows. -/
inductive WakeSource
  | pin | alarm | mspi | signal
deriving DecidableEq, Repr

/-- Power, reset and PD0 (R395 to R403); `crystal` says that the board has a crystal on RTCXI and RTCXO. -/
structure Power where
  mode : PMode
  held : Bool
  aonHeld : Bool
  supplyLow : Bool
  rstLow : Bool
  warm : Bool
  entering : Option PMode
  wakeSeen : Option WakeSource
  laneOff : BitVec 2
  wakeCfg : BitVec 64
  wakeAlarm : BitVec 64
  lastWake : BitVec 4
  busy : Bool
  refusedJrnl : Bool
  resetCause : BitVec 6
  refclk : Bool
  rtcFrac : Nat
  crystal : Bool
deriving DecidableEq, Repr

/-- The phases (Table 15.10). -/
inductive Phase
  | boot | loader | receiving | verifying | failed | run | zeroised | doze
deriving DecidableEq, Repr

/-- A section table entry (Table 3.18 and the text under it). -/
structure Section where
  type : Nat
  load : Nat
  words : Nat
  offset : Nat
deriving DecidableEq, Repr

/-- The acceptance record (R405, R412), with what the HCB shows of the running image. -/
structure Accepted where
  version : BitVec 32
  secver : BitVec 32
  signer : BitVec 2
  digest : BitVec 384
  entries : List Nat
  handlers : List (BitVec 32)
  threads : BitVec 8
  pages : List Nat
  pageHash : BitVec 384
  config : Option (Nat × Nat)
deriving DecidableEq, Repr

/-- The loader (R410 to R413): the image bytes taken so far, bytes waiting in the FIFO while a clear runs, the count of
bytes received, and the clear of the Reservoir in progress. -/
structure Loader where
  stream : List Byte
  fifo : List Byte
  received : Nat
  clearing : Bool
  stat : Byte
  signer : BitVec 2
  failures : BitVec 32
  record : Option Accepted
deriving DecidableEq, Repr

/-- The HCB (R406 to R409). `stopped` are the threads behind HOSTPEND[3]; `sdo` are the bytes that the last MSPI
frame had on SDO, none where SDO stayed at high impedance. -/
structure Hcb where
  phase : Phase
  bootsel : BitVec 2
  phaseChanged : Bool
  stopped : BitVec 8
  otpDone : Bool
  hostMask : BitVec 64
  mbIn : List Data
  mbOut : List Word
  mbOutTag : BitVec 9
  mbDrop : BitVec 64
  otpBuf : Mem
  otpStat : BitVec 2
  sdo : Option (List Byte)
deriving DecidableEq, Repr

/-- Part and silicon revision (R1, R447). -/
inductive PartNo
  | gx7204 | gx7202
deriving DecidableEq, Repr

/-- Silicon revision A or B. -/
inductive Rev
  | a | b
deriving DecidableEq, Repr

end Sys2Proof.Machine
end

