-- ==== Sys2Proof/Machine/Profiles.lean ====
section
/-! DEFINITION. The fields of the subsystems: their keys, limits and profile values (Tables 6.10, 6.11, 7.12, 7.13, 8.8,
8.9, 10.6 to 10.9, 11.8, 11.9, 12.6 to 12.9, 13.7 to 13.9, 14.11 and 14.12). -/

namespace Sys2Proof.Machine

/-- The key of page:field. -/
def key (page field : Nat) : Nat := 64 * page + field

/-- The subsystem codes of Table 3.16. -/
inductive Sub
  | lane | mxt | parene | weir | oxbow | levee | riffle | field | gauge | group | time
deriving DecidableEq, Repr

/-- The SUB code of a subsystem (Table 3.16). -/
def Sub.code : Sub → Nat
  | .lane => 0 | .mxt => 1 | .parene => 2 | .weir => 3 | .oxbow => 4 | .levee => 5 | .riffle => 6 | .field => 7
  | .gauge => 8 | .group => 9 | .time => 10

/-- The subsystem of a SUB code; 11 to 15 are reserved (Table 3.16). -/
def Sub.ofCode : Nat → Option Sub
  | 0 => some .lane | 1 => some .mxt | 2 => some .parene | 3 => some .weir | 4 => some .oxbow | 5 => some .levee
  | 6 => some .riffle | 7 => some .field | 8 => some .gauge | 9 => some .group | 10 => some .time | _ => none

/-- How many INST values a subsystem has (Table 3.16). -/
def Sub.count : Sub → Nat
  | .lane => 2 | .mxt => 2 | .parene => 4 | .weir => 4 | .riffle => 4 | _ => 1

/-- The place of a subsystem's INST 0 among the 22 subsystem states. -/
def Sub.base : Sub → Nat
  | .lane => 0 | .mxt => 2 | .parene => 4 | .weir => 8 | .oxbow => 12 | .levee => 13 | .riffle => 14 | .field => 18
  | .gauge => 19 | .group => 20 | .time => 21

/-- The 64-bit two's complement of an integer, the form in which signed fields are held (R75). -/
def s64 (i : Int) : BitVec 64 := BitVec.ofInt 64 i

/-- What a field admits. `action` is a field that acts when it is written and reads as 0 (R160, R154, R331). -/
inductive Limit
  | range (lo hi : Nat)
  | signed (lo hi : Int)
  | steps (lo hi step : Nat)
  | ringSize
  | gaugeCfg
  | fpPolicy
  | action (hi : Nat)
deriving DecidableEq, Repr

/-- Whether a CFG word of the Gauge is within its limits (Table 12.9 and the text under it). -/
def gaugeCfgOk (v : BitVec 64) : Bool :=
  let filter := (v.extractLsb' 3 2).toNat
  let rate := (v.extractLsb' 5 16).toNat
  let outputs := (v.extractLsb' 21 8).toNat
  v.toNat < 2 ^ 29 && 1 ≤ outputs && 10 ≤ rate &&
    (if filter = 2 then rate ≤ 25 else if filter = 3 then false else rate ≤ 32000)

/-- Whether a value is within a field's own width and limits (R74). -/
def Limit.admits (l : Limit) (v : BitVec 64) : Bool :=
  match l with
  | .range lo hi => lo ≤ v.toNat && v.toNat ≤ hi
  | .signed lo hi => lo ≤ v.toInt && v.toInt ≤ hi
  | .steps lo hi step => lo ≤ v.toNat && v.toNat ≤ hi && v.toNat % step == 0
  | .ringSize => v.toNat == 0 || (List.range 13).any fun k => v.toNat == 2 ^ (k + 4)
  | .gaugeCfg => gaugeCfgOk v
  | .fpPolicy => v.toNat < 2 ^ 32 && (List.range 16).all fun i => (v.extractLsb' (2 * i) 2).toNat != 3
  | .action hi => v.toNat ≤ hi

/-- The FFE presets P1, P2, P3 (Table 6.8). -/
def presetTaps : Nat → List Int
  | 2 => [0, 0, 64, 0, 0]
  | 3 => [0, -8, 44, -12, 0]
  | _ => [0, -4, 54, -6, 0]

/-- The range of FFE tap t (Table 6.8). -/
def tapLimits : Nat → Int × Int
  | 0 => (-8, 8) | 1 => (-16, 0) | 2 => (32, 64) | 3 => (-24, 0) | _ => (-8, 8)

/-- The key of lane i's TAP t. -/
def tapKey (i t : Nat) : Nat := key 1 (8 + 8 * i + t)

/-- The (lane, tap) pairs. -/
def tapIndex : List (Nat × Nat) := (List.range 4).flatMap fun i => (List.range 5).map fun t => (i, t)

/-- The fields XCTL reaches, with their limits, in ascending order of key (Tables 6.11, 7.13, 8.9, 10.8, 10.9, 11.9,
12.8, 12.9, 13.9, 14.12). -/
def fieldLimits : Sub → List (Nat × Limit)
  | .lane =>
    [(0, .range 0 2), (1, .range 0 2), (2, .range 0 2), (3, .range 0 2), (4, .range 0 1), (5, .action 1), (6, .range 0 1),
     (key 1 0, .range 0 1), (key 1 1, .range 1 3)] ++
    tapIndex.map (fun p => (tapKey p.1 p.2, .signed (tapLimits p.2).1 (tapLimits p.2).2)) ++
    [(key 2 0, .range 0 1), (key 2 1, .range 0 15), (key 2 2, .range 0 15), (key 2 3, .range 0 15), (key 2 4, .range 0 15),
     (key 2 5, .range 0 1), (key 2 6, .range 0 255), (key 2 7, .range 0 255)] ++
    (List.range 6).map (fun f => (key 3 f, .range 100 200000)) ++
    [(key 4 0, .range 0 3600), (key 4 1, .range 0 15), (key 4 2, .range 0 7), (key 4 3, .signed (-32) 31),
     (key 4 4, .signed (-32) 31), (key 4 5, .range 1 16), (key 4 6, .signed (-63) 63), (key 4 7, .signed (-63) 63),
     (key 4 8, .range 1 32), (key 4 9, .range 10 36), (key 4 10, .range 0 0x03FFFFFF), (key 4 11, .action 1)]
  | .mxt =>
    [(0, .range 0 1), (1, .range 0 1), (2, .range 8 63), (3, .range 100 2000), (key 1 0, .range 10 100000),
     (key 1 1, .range 2 100), (key 1 2, .range 1 16), (key 1 3, .range 200 5000), (key 2 0, .range 0 1),
     (key 2 1, .range 1 0xFFFE)]
  | .parene =>
    [(0, .steps 10 200 5), (1, .steps 10 200 5), (2, .range 1 1000), (3, .range 1 500), (4, .range 2 1000),
     (5, .range 1 255), (6, .range 1 255), (7, .range 1 16), (8, .range 10 10000), (key 1 0, .range 0 1),
     (key 1 1, .range 1 64), (key 1 2, .range 1 255), (key 1 3, .range 0 1), (key 1 4, .steps 50 5000 5),
     (key 1 5, .range 1 1000), (key 1 6, .range 0 1000), (key 2 0, .range 0 1), (key 2 1, .range 0 1),
     (key 2 2, .range 0 1)]
  | .weir => [(0, .range 1 64), (1, .range 1 10000), (2, .range 0 10000), (3, .range 1 65535)]
  | .oxbow =>
    [(0, .range 0 63), (1, .range 0 48), (2, .range 0 1), (3, .range 1 600000), (4, .range 10 600000),
     (5, .range 10 10000), (key 1 0, .range 0 2), (key 1 1, .range 0 2), (key 1 2, .range 0 2), (key 1 3, .range 0 2)]
  | .levee =>
    [(0, .range 0 1), (1, .range 0 3), (2, .range 0 3), (3, .range 0 3), (4, .range 0 3), (5, .range 0 3), (6, .range 0 3),
     (7, .range 0 3), (key 1 0, .range 0 3), (key 1 1, .range 0 0xFFFF)] ++
    (List.range 4).map (fun n => (key 1 (4 + n), .range 0 3)) ++
    (List.range 4).map (fun n => (key 1 (8 + n), .range 0 2))
  | .riffle => [(0, .range 1 65535), (1, .range 0 255), (2, .range 1 16)]
  | .field => [(0, .fpPolicy), (1, .range 0 0xFFFF), (2, .action 0xFFFF), (3, .action 0xFFFF)]
  | .gauge =>
    [(0, .range 0 0xFFFFF), (1, .range 0 0x03FFFFFF), (2, .ringSize), (3, .range 0 0x03FFFFFF)] ++
    (List.range 20).map (fun c => (key 1 c, .gaugeCfg)) ++
    (List.range 20).map (fun c => (key 2 c, .range 0 0xFFFFFF)) ++
    (List.range 20).map (fun c => (key 3 c, .range 0 0xFFFFFF))
  | .group =>
    [(0, .range 10 10000), (1, .range 10 10000), (2, .range 0 100000), (3, .range 50 10000), (4, .range 100 100000),
     (key 1 0, .range 0 15), (key 1 1, .range 0 15), (key 1 2, .range 0 15), (key 1 3, .range 0 15),
     (key 1 4, .range 0 1), (key 1 5, .range 0 2)]
  | .time => [(0, .range 0 2), (1, .range 16 16000), (2, .range 1 500)]

/-- Naturals as field values. -/
def nats (l : List (Nat × Nat)) : Assoc (BitVec 64) := l.map fun p => (p.1, BitVec.ofNat 64 p.2)

/-- The fields of a LANE profile (R157, Table 6.10). -/
def laneProfile (rmax wmin preset tadapt nrz sum : Nat) : Assoc (BitVec 64) :=
  nats [(0, rmax), (1, 0), (2, 2), (3, wmin), (4, nrz), (5, 0), (6, 0), (key 1 0, 0), (key 1 1, preset)] ++
  tapIndex.map (fun p => (tapKey p.1 p.2, s64 ((presetTaps preset).getD p.2 0))) ++
  nats [(key 2 0, 0), (key 2 1, 8), (key 2 2, 8), (key 2 3, 8), (key 2 4, 8), (key 2 5, 0), (key 2 6, 40), (key 2 7, 56),
    (key 3 0, 5000), (key 3 1, 100), (key 3 2, 1000), (key 3 3, tadapt), (key 3 4, 1000), (key 3 5, 10000),
    (key 4 0, sum), (key 4 1, 15), (key 4 2, 7)] ++
  [(key 4 3, s64 (-32)), (key 4 4, s64 30), (key 4 5, 2), (key 4 6, s64 (-60)), (key 4 7, s64 60), (key 4 8, 4),
    (key 4 9, 20), (key 4 10, 0), (key 4 11, 0)]

/-- The fields of an MXT profile (R186, Table 7.12). -/
def mxtProfile (enc cto : Nat) : Assoc (BitVec 64) :=
  nats [(0, enc), (1, enc), (2, 63), (3, 500), (key 1 0, cto), (key 1 1, 10), (key 1 2, 4), (key 1 3, 1000), (key 2 0, 0),
    (key 2 1, 1)]

/-- The fields of a PARENE profile (R215, Table 8.8). -/
def pareneProfile (setup holdt timeout tgtrty rtywait blkmax arb filter rst : Nat) : Assoc (BitVec 64) :=
  nats [(0, setup), (1, holdt), (2, timeout), (3, tgtrty), (4, rtywait), (5, 16), (6, 16), (7, blkmax), (8, 1000),
    (key 1 0, arb), (key 1 1, 4), (key 1 2, 16), (key 1 3, 0), (key 1 4, filter), (key 1 5, 2), (key 1 6, rst),
    (key 2 0, 0), (key 2 1, 0), (key 2 2, 0)]

/-- The fields of an OXBOW profile (R280, Table 10.7). -/
def oxbowProfile (jbase jsize mirror : Nat) : Assoc (BitVec 64) :=
  nats [(0, jbase), (1, jsize), (2, mirror), (3, 1000), (4, 2000), (5, 200), (key 1 0, 0), (key 1 1, 0), (key 1 2, 0),
    (key 1 3, 0)]

/-- The fields of a LEVEE profile (R392, Table 14.11). -/
def leveeProfile (defmode rights wrmin setupmin pinmin pindeny : Nat) : Assoc (BitVec 64) :=
  nats [(0, defmode), (1, 1), (2, rights), (3, wrmin), (4, setupmin), (5, 2), (6, 2), (7, 2), (key 1 0, pinmin),
    (key 1 1, pindeny), (key 1 4, 3), (key 1 5, 3), (key 1 6, 3), (key 1 7, 3), (key 1 8, 2), (key 1 9, 2), (key 1 10, 2),
    (key 1 11, 2)]

/-- A CFG word of the Gauge from gain code, filter, rate and OUTPUTS (Table 12.9). -/
def gaugeCfg (gain filter rate outputs : Nat) : Nat := gain + 8 * filter + 32 * rate + 2 ^ 21 * outputs

/-- The fields of a GAUGE profile (R330, Table 12.7). -/
def gaugeProfile (mask words cfg : Nat) : Assoc (BitVec 64) :=
  nats [(0, mask), (1, 0x00FE0000), (2, words), (3, 0x00FDFFF8)] ++
  nats ((List.range 20).map fun c => (key 1 c, cfg)) ++
  nats ((List.range 20).map fun c => (key 2 c, 0x800000)) ++
  nats ((List.range 20).map fun c => (key 3 c, 0x7FFFFF))

/-- What CANDn holds under a GROUP profile: every configured member that has port n, whoever they are (R357). No XCTL can write it, and
it reads as the members it stands for (log 94). -/
def candAll : Nat := 16

/-- The fields of a GROUP profile (R357, Table 13.7). -/
def groupProfile (hbp hbt fwdto vermatch : Nat) : Assoc (BitVec 64) :=
  nats [(0, hbp), (1, hbt), (2, 0), (3, 200), (4, fwdto), (key 1 0, candAll), (key 1 1, candAll), (key 1 2, candAll), (key 1 3, candAll),
    (key 1 4, 0), (key 1 5, vermatch)]

/-- Every field of a subsystem under one of its profile codes; `none` for a code its chapter does not define (R72). The GAUGE's
OFF takes the values of FIELDWATCH where Table 12.7 shows dashes (DESIGN CHOICE, log 94). -/
def profileFields : Sub → Nat → Option (Assoc (BitVec 64))
  | .lane, 0 => some (laneProfile 2 0 1 40000 0 60)
  | .lane, 1 => some (laneProfile 2 0 3 80000 0 10)
  | .lane, 2 => some (laneProfile 2 0 2 20000 0 60)
  | .lane, 3 => some (laneProfile 1 0 1 40000 0 60)
  | .lane, 4 => some (laneProfile 0 0 2 40000 0 60)
  | .lane, 5 => some (laneProfile 0 0 2 40000 1 60)
  | .lane, 6 => some (laneProfile 2 2 1 40000 0 60)
  | .mxt, 0 => some (mxtProfile 0 1000)
  | .mxt, 1 => some (mxtProfile 1 1000)
  | .mxt, 2 => some (mxtProfile 1 100)
  | .mxt, 3 => some (mxtProfile 1 20000)
  | .parene, 0 => some (pareneProfile 20 15 20 8 10 16 1 100 0)
  | .parene, 1 => some (pareneProfile 40 30 50 20 20 16 1 200 0)
  | .parene, 2 => some (pareneProfile 20 15 20 8 10 1 1 100 0)
  | .parene, 3 => some (pareneProfile 20 15 20 8 10 16 0 100 0)
  | .parene, 4 => some (pareneProfile 20 15 20 8 10 16 1 100 10)
  | .weir, 0 => some (nats [(0, 16), (1, 100), (2, 50), (3, 500)])
  | .weir, 1 => some (nats [(0, 4), (1, 20), (2, 10), (3, 200)])
  | .weir, 2 => some (nats [(0, 48), (1, 1000), (2, 200), (3, 1000)])
  | .weir, 3 => some (nats [(0, 16), (1, 100), (2, 0), (3, 500)])
  | .oxbow, 0 => some (oxbowProfile 0 0 0)
  | .oxbow, 1 => some (oxbowProfile 56 8 0)
  | .oxbow, 2 => some (oxbowProfile 48 16 0)
  | .oxbow, 3 => some (oxbowProfile 16 48 0)
  | .oxbow, 4 => some (oxbowProfile 48 16 1)
  | .oxbow, 5 => some (oxbowProfile 16 48 1)
  | .levee, 0 => some (leveeProfile 1 0 2 3 2 0)
  | .levee, 1 => some (leveeProfile 1 0 2 3 2 0x8260)
  | .levee, 2 => some (leveeProfile 0 3 0 0 0 0)
  | .riffle, 0 => some (nats [(0, 1), (1, 0), (2, 16)])
  | .riffle, 1 => some (nats [(0, 1), (1, 0), (2, 4)])
  | .riffle, 2 => some (nats [(0, 125), (1, 0), (2, 16)])
  | .riffle, 3 => some (nats [(0, 67), (1, 209), (2, 16)])
  | .riffle, 4 => some (nats [(0, 813), (1, 205), (2, 16)])
  | .field, 0 => some (nats [(0, 0), (1, 0), (2, 0), (3, 0)])
  | .field, 1 => some (nats [(0, 0x55555555), (1, 0xFFFF), (2, 0), (3, 0)])
  | .field, 2 => some (nats [(0, 0xAAAAAAAA), (1, 0), (2, 0), (3, 0)])
  | .gauge, 0 => some (gaugeProfile 0 0 (gaugeCfg 0 0 4000 1))
  | .gauge, 1 => some (gaugeProfile 0x0FFFF 8192 (gaugeCfg 0 0 4000 1))
  | .gauge, 2 => some (gaugeProfile 0x0FFFF 8192 (gaugeCfg 0 2 20 2))
  | .gauge, 3 => some (gaugeProfile 0xF0000 8192 (gaugeCfg 0 1 32000 27))
  | .gauge, 4 => some (gaugeProfile 0xFFFFF 8192 (gaugeCfg 0 0 4000 1))
  | .group, 0 => some (groupProfile 100 1000 2000 0)
  | .group, 1 => some (groupProfile 20 200 500 0)
  | .group, 2 => some (groupProfile 500 5000 10000 0)
  | .group, 3 => some (groupProfile 100 1000 2000 1)
  | .time, 0 => some (nats [(0, 0), (1, 1000), (2, 100)])
  | .time, 1 => some (nats [(0, 1), (1, 1000), (2, 100)])
  | .time, 2 => some (nats [(0, 2), (1, 1000), (2, 100)])
  | _, _ => none

/-- The subsystem state that a reset gives: locked, profile 0 (R7). -/
def Subsys.initial (u : Sub) : Subsys :=
  { unlocked := false, profile := 0, fields := (profileFields u 0).getD [] }

end Sys2Proof.Machine
end

