-- ==== Sys2Proof/Machine/State.lean ====
section
/-! DEFINITION. The state of the block and its state after reset (R404 and the reset rules of each chapter). -/

namespace Sys2Proof.Machine

/-- Why a step stops with a fault. No meaning of this model answers one: every exception, refusal and error of the spec is
a next state (safe: nothing is proved of a machine that has stopped). -/
inductive Fault
  /-- Raised by nobody. -/
  | none
deriving DecidableEq, Repr

/-- Why a step is refused. -/
inductive Refusal
  /-- Raised by an arm of `exec` whose command has no meaning yet (safe: nothing follows from a refusal). -/
  | notModelled (mnemonic : String)
deriving DecidableEq, Repr

/-- The whole block. -/
structure State where
  part : PartNo
  rev : Rev
  seq : Seq
  res : Reservoir
  subs : Vector Subsys 22
  windows : Assoc Win
  routes : Assoc Route
  rules : Assoc LevRule
  orders : List OrdEntry
  mxt : Vector Mxt 2
  lanes : Vector LanePort 2
  pb : Vector Pb 4
  journal : Journal
  engines : Vector REng 4
  chans : Vector RChan 64
  mirror : Vector ChanMirror 64
  field : Field
  gauge : Gauge
  group : Group
  time : TimeSt
  sec : Sec
  power : Power
  hcb : Hcb
  loader : Loader
  pending : List Instr
  nextId : Nat
  free : Nat
deriving DecidableEq, Repr

/-- The registers of a thread at reset: 0 in every bit (R44; log 2). -/
def RegFile.initial : RegFile := { regs := Vector.replicate 32 0, waits := Vector.replicate 32 0 }

/-- A thread at reset (R404; log 2). -/
def ThreadSt.initial : ThreadSt :=
  { rf := RegFile.initial, ia := 0, run := .notStarted, statCause := 0, xia := 0, xcause := 0, xinfo := 0,
    handler := 0xFFFFFFFF, timercmp := BitVec.allOnes 64, hmode := false, yielded := false, resv := none, scFails := 0,
    wait := .none, cq := [], fetchStop := none, stopping := false, otok := [], issued := 0,
    mispredict := 0, squashed := 0 }

/-- The sequencer at reset. -/
def Seq.initial : Seq :=
  { threads := Vector.replicate 8 ThreadSt.initial, lastSel := 7, slot := none, served := Vector.replicate 7 7, ops := [], jwaits := [], shadow := Vector.replicate 7 0,
    shadowBusy := Vector.replicate 7 0, sticky := 0, ext := [], postedOut := [], conf := [], prot := [],
    protQueue := [] }

/-- The Reservoir after the clear of a cold start (R404). -/
def Reservoir.initial : Reservoir :=
  { data := [], tags := [], errs := [], pages := [], ce := Vector.replicate 8 0, ue := Vector.replicate 8 0 }

/-- The 22 subsystem states of a reset: every one locked under profile 0 (R7). -/
def initialSubs : Vector Subsys 22 :=
  #v[Subsys.initial .lane, Subsys.initial .lane, Subsys.initial .mxt, Subsys.initial .mxt, Subsys.initial .parene,
    Subsys.initial .parene, Subsys.initial .parene, Subsys.initial .parene, Subsys.initial .weir, Subsys.initial .weir,
    Subsys.initial .weir, Subsys.initial .weir, Subsys.initial .oxbow, Subsys.initial .levee, Subsys.initial .riffle,
    Subsys.initial .riffle, Subsys.initial .riffle, Subsys.initial .riffle, Subsys.initial .field,
    Subsys.initial .gauge, Subsys.initial .group, Subsys.initial .time]

/-- The transaction layer of a port that is not in link up and has never been (R185, R404): credits at the buffer sizes
of Table 7.1. -/
def Mxt.initial : Mxt :=
  { up := false, gen := 0, encTx := false, encRx := false, fixed := false, epid := 0, ordNext := 0,
    queues := Vector.replicate 4 [], unacked := [], txPsn := 0, rxPsn := 0, nak := false, ackOwed := false, replays := 0,
    credit := #v[192, 96, 192, 48], used := Vector.replicate 4 0, freed := #v[192, 96, 192, 48],
    told := #v[192, 96, 192, 48], reqs := [], heldTags := [], ins := [], flushes := [], txKey := none, nextKey := none,
    rxKeys := Vector.replicate 4 none, segno := 0, seg := [], segMax := 63, lastSealed := none, held := [], encMismatch := false,
    authTimes := [], echoTx := BitVec.allOnes 64, echoRx := 0, lastLcp := none, lastTime := none, cnt := [] }

/-- A lane at stage 1 with the taps of P1, the preset of profile 0 (R139, Table 6.10). -/
def Lane.initial : Lane :=
  { stage := 1, signal := false, locked := false, markers := 0, sense := false, inverted := false, lastTf := none,
    sameTf := 0, switched := false, rxReady := false, peerReady := false, taps := #v[0, -4, 54, -6, 0], status := 0,
    fom := 0, eyeH := 0, eyeW := 0, ctle := 8, dfe := Vector.replicate 12 0 }

/-- A powered port at stage 1 (R139). -/
def LanePort.initial : LanePort :=
  { powered := true, stage := 1, lanes := Vector.replicate 4 Lane.initial, rate := 0, width := 0, correct := true,
    reversed := false, agreed := false, failed := 0, waiting10 := false, relocking := false, sending := none, badRun := 0, goodRun := 0,
    lastFail := 0, fomLow := 0, scanStat := 0, scan := none, inForce := (Subsys.initial .lane).fields, cnt := [] }

/-- Every line of a port at high impedance (R206). -/
def PbPins.highZ : PbPins :=
  { oe := none, dir := none, turn := [], ad := none, asLow := false, dsLow := false, wrLow := false, ackLow := false,
    rtyLow := false, berrLow := false, irqLow := 0, iack := none, bg := none, sysrstLow := false }

/-- Class 0 after reset (R251). -/
def WeirClass.initial : WeirClass :=
  { refuse := false, deny := false, prio := 0, origin := 0, anyOrigin := true, minTrust := 0, rate := 0xFFFF,
    depth := 255, hintCap := 1000, bucket := 255000 }

/-- A Parene port at reset (R206, R251, R266). -/
def Pb.initial : Pb :=
  { enabled := false, recorded := false, phase := .off, disabling := false, releasing := false, ext := .none, pins := PbPins.highZ,
    inForce := (Subsys.initial .parene).fields, rstPulse := 0, cyc := none, retryWait := false, jobs := [],
    waiting := [], br := false, granted := false, tenure := none, tenOver := false, abortNext := false, ownSince := 0, irqPend := 0,
    iackGap := 0, irqDrive := 0, irqRec := 0, tgt := .idle, acc := none, deferHold := [], ewaOut := [], gen0 := 0,
    otok := [],
    cnt := [], lateLast := 0, classes := (Vector.replicate 8 none).set 0 (some WeirClass.initial), wcnt := [], jsn := 1,
    jclosed := false }

/-- The fields of a RIFCHAN that a reset leaves: ENABLE 0 and every other field 0 (R286; log 3). -/
def RCfg.initial : RCfg :=
  { entry := 0, enable := false, ebase := 0, ecount := 0, sbase := 0, scount := 0, dbase := 0, dcount := 0, tpin := 0,
    txMsb := false, rxMsb := false, join := 0, stopHold := false, rbCheck := false, attnMask := 0 }

/-- A channel at reset (R286; log 3). -/
def RChan.initial : RChan :=
  { cfg := RCfg.initial, change := [], faulted := false, pc := 0, c0 := 0, c1 := 0, tf := BitVec.allOnes 64, tp := 64,
    rf := 0, rp := 0, txq := [], rxq := [], flags := 0, vals := 0, ens := 0, turns := none, waiting := false }

/-- The mirror of a channel at reset (R286, R423). -/
def ChanMirror.initial : ChanMirror := { tx := 0, rx := [], flags := 0, pc := 0 }

/-- An engine at reset: stopped, store all zero (R286), divider and wheel of profile 0. -/
def REng.initial : REng :=
  { running := false, divider := 256, wheel := 16, next := 0, cycles := 0, store := Vector.replicate 128 0, flags := 0,
    ops := [] }

/-- The field pins at reset (R311, R313). -/
def Field.initial : Field :=
  { fpOn := false, lpOn := false,
    fp := Vector.replicate 16 { prot := .normal, short := false, backoff := 1, turnOffs := 0, readback := none },
    lp := Vector.replicate 16 { off := false, contending := false }, cnt := [] }

/-- The Gauge at reset: no scan (R330). -/
def Gauge.initial : Gauge :=
  { visit := none, made := 0, cfg := 0, mask := 0, seq := 0, suspect := false, alarms := 0,
    last := Vector.replicate 20 0, overrun := 0 }

/-- A configured index of which nothing is known. -/
def Peer.initial : Peer :=
  { hello := none, agrees := false, alive := false, left := false, lastEpoch := 0, confAt := none, locked := false, tstate := 0, stew := 0,
    svalid := 0, reported := 0 }

/-- A member that is not joined (R404). -/
def Group.initial : Group :=
  { joined := false, index := 0, n1 := 0, prio := 0, gaddr := 0, gid := 0, peers := Vector.replicate 4 Peer.initial,
    epoch := 0, view := 0, admitted := false, highEpoch := 0, ackEpoch := 0, ackMask := 0, proposal := none, fenced := false,
    stewards := Vector.replicate 4 none, takeover := Vector.replicate 4 none,
    lostBy := Vector.replicate 4 none, mirrorGot := 0, mirrorMiss := 0, inForce := (Subsys.initial .group).fields, forwards := [],
    fwdIn := [], jrecIn := [], lastDis := 0, cnt := [] }

/-- Plant Time after an AON reset: 0, SOLO (Table 15.6, Table 13.6). -/
def TimeSt.initial : TimeSt :=
  { now := 0, offsets := [], fabric := [], reference := 0, state := 0, probesLost := 0, firstSeen := false,
    sourcePort := none, steer := 0, slewFrac := 0, tsteps := 0,
    inForce := (Subsys.initial .time).fields, echoTx := BitVec.allOnes 64, echoRx := 0 }

/-- The fuses as delivered (R447; log 4). -/
def Otp.initial : Otp :=
  { life := .provision, keyHash := Vector.replicate 4 none, revoked := 0, secVerMin := 0, dbgHash := none,
    tamperResp := 0, pufHelp := true, idWrap := true, idCert := true }

/-- The security unit at reset: LIFECYCLE is PROVISION and no TAMPERRESP fuse is blown, and so debug level 2
is open (R384): bits 0, 1 and 5 have left the evaluated configuration (R390, R391). -/
def Sec.initial : Sec :=
  { otp := Otp.initial, slots := Vector.replicate 8 none, drbg := true, identity := true, dbgLevel := 0, challenge := none, dbgReq := none,
    refusals := 0, holdTil := 0, tap := .idcode, tdo := [], tamperRec := 0, tamperTime := 0, tampers := 0, leftEval := 0x23, cnt := [], authTrips := Vector.replicate 2 0 }

/-- Power and PD0 right after main reset release that follows an AON reset (Table 15.6; log 6), on a board with a crystal (log 96). -/
def Power.initial : Power :=
  { mode := .run, held := false, aonHeld := false, supplyLow := false, rstLow := false, warm := false, entering := none,
    wakeSeen := none, laneOff := 0, wakeCfg := 0, wakeAlarm := 0, lastWake := 0, busy := false, refusedJrnl := false,
    resetCause := 1, refclk := true, rtcFrac := 0, crystal := true }

/-- The HCB at reset, PHASE BOOT (R404, Table 15.10; log 6). -/
def Hcb.initial : Hcb :=
  { phase := .boot, bootsel := 0, phaseChanged := false, stopped := 0, otpDone := false, hostMask := 0,
    mbIn := [], mbOut := [], mbOutTag := 0, mbDrop := 0, otpBuf := [], otpStat := 0, sdo := none }

/-- The loader at reset (Table 15.11 code 0x00). -/
def Loader.initial : Loader :=
  { stream := [], fifo := [], received := 0, clearing := false, stat := 0, signer := 0, failures := 0, record := none }

/-- The block right after main reset release. -/
def State.reset : State :=
  { part := .gx7204, rev := .b, seq := Seq.initial, res := Reservoir.initial, subs := initialSubs, windows := [],
    routes := [], rules := [], orders := [], mxt := Vector.replicate 2 Mxt.initial,
    lanes := Vector.replicate 2 LanePort.initial, pb := Vector.replicate 4 Pb.initial,
    journal := { entries := [], reqrs := [], attention := [], topJsn := Vector.replicate 4 0, cnt := [] }, engines := Vector.replicate 4 REng.initial,
    chans := Vector.replicate 64 RChan.initial, mirror := Vector.replicate 64 ChanMirror.initial, field := Field.initial, gauge := Gauge.initial, group := Group.initial,
    time := TimeSt.initial, sec := Sec.initial, power := Power.initial, hcb := Hcb.initial, loader := Loader.initial,
    pending := [], nextId := 1, free := 0 }

end Sys2Proof.Machine
end

