-- ==== Sys2Proof/Machine/Flags.lean ====
section
/-! DEFINITION. Tags of data words and their merge (R21, R25, R26), and the status word (R53). -/

namespace Sys2Proof.Machine

/-- The data bits [63:0] of a word (R21). -/
def dataOf (w : Word) : Data := w.extractLsb' 0 64

/-- The tag byte [71:64] of a word (R21). -/
def tagOf (w : Word) : Byte := w.extractLsb' 64 8

/-- A word from its tag and data (R21). -/
def mkWord (tag : Byte) (d : Data) : Word := tag ++ d

/-- ORIGIN of a tag (Table 2.2). -/
def tagOrigin (t : Byte) : BitVec 4 := t.extractLsb' 4 4

/-- TRUST of a tag (Table 2.2). -/
def tagTrust (t : Byte) : BitVec 2 := t.extractLsb' 2 2

/-- VALID of a tag (Table 2.2). -/
def tagValid (t : Byte) : Bool := t.getLsbD 1

/-- POISON of a tag (Table 2.2). -/
def tagPoison (t : Byte) : Bool := t.getLsbD 0

/-- A tag from its fields (Table 2.2). -/
def mkTag (origin : BitVec 4) (trust : BitVec 2) (valid poison : Bool) : Byte :=
  origin ++ trust ++ BitVec.ofBool valid ++ BitVec.ofBool poison

/-- Constant tag: ORIGIN 0, TRUST 3, VALID 1, POISON 0 (text before R47). -/
def constTag : Byte := 0x0E

/-- A word with constant tag. -/
def constWord (d : Data) : Word := mkWord constTag d

/-- The empty word 0 that W0 reads as and that a mailbox or queue with nothing in it gives (R25, R58). -/
def emptyWord : Word := 0

/-- A word that is neither poisoned nor empty (Table 2.4). -/
def isGood (w : Word) : Bool := tagValid (tagOf w) && !tagPoison (tagOf w)

/-- The merge of two tags (R25). -/
def mergeTag (a b : Byte) : Byte :=
  mkTag (if tagOrigin a = tagOrigin b then tagOrigin a else 15)
    (if (tagTrust a).toNat ≤ (tagTrust b).toNat then tagTrust a else tagTrust b)
    (tagValid a && tagValid b) (tagPoison a || tagPoison b)

/-- The merge of a list of tags; constant tag where there is no operand (R25, R65). -/
def mergeTags : List Byte → Byte
  | [] => constTag
  | t :: ts => ts.foldl mergeTag t

/-- A tag with POISON set (R19, R27). -/
def poisonTag (t : Byte) : Byte := t ||| 1

/-- A tag with other ORIGIN. -/
def withOrigin (t : Byte) (o : BitVec 4) : Byte := mkTag o (tagTrust t) (tagValid t) (tagPoison t)

/-- A tag with TRUST lowered to at most `c` (R23, Table 14.4). -/
def capTrust (t : Byte) (c : BitVec 2) : Byte :=
  mkTag (tagOrigin t) (if (tagTrust t).toNat ≤ c.toNat then tagTrust t else c) (tagValid t) (tagPoison t)

/-- What a word whose access ended with a code other than 0x0 is delivered as (R54): data 0, ORIGIN 15, TRUST 0, VALID 0,
POISON 1. -/
def failedWord : Word := mkWord (mkTag 15 0 false true) 0

/-- The status word (R53). -/
def statusWord (code : BitVec 4) (hint : BitVec 16) : Word :=
  constWord (hint.setWidth 64 <<< 16 ||| code.setWidth 64)

/-- ORIGIN of a Parene port (Table 2.3). -/
def portOrigin (n : PbNo) : BitVec 4 := BitVec.ofNat 4 (n.val + 1)

/-- ORIGIN of an MX port (Table 2.3). -/
def mxOrigin (p : MxNo) : BitVec 4 := BitVec.ofNat 4 (p.val + 5)

/-- Byte i of a data word, bits [8i+7:8i] (R32). -/
def byteOf (d : Data) (i : Nat) : Byte := d.extractLsb' (8 * i) 8

/-- The data word of eight bytes, byte 0 in [7:0] (R32). -/
def ofBytes (f : Nat → Byte) : Data :=
  f 7 ++ f 6 ++ f 5 ++ f 4 ++ f 3 ++ f 2 ++ f 1 ++ f 0

end Sys2Proof.Machine
end

