-- ==== Sys2Proof/Machine/Ops.lean ====
section
/-! DEFINITION. The named operations over sparse tables, counters, free values, the Reservoir and the subsystem fields. -/

namespace Sys2Proof.Machine

/-- What a sparse table holds under a number. -/
def aget {α : Type} (k : Nat) : Assoc α → Option α
  | [] => none
  | (k', v) :: r => if k = k' then some v else aget k r

/-- A sparse table with a value put under a number. -/
def aset {α : Type} (k : Nat) (v : α) : Assoc α → Assoc α
  | [] => [(k, v)]
  | (k', v') :: r =>
    if k < k' then (k, v) :: (k', v') :: r else if k = k' then (k, v) :: r else (k', v') :: aset k v r

/-- A sparse table without a number. -/
def adel {α : Type} (k : Nat) : Assoc α → Assoc α
  | [] => []
  | (k', v') :: r => if k = k' then adel k r else (k', v') :: adel k r

/-- One component of a vector changed by a function. -/
def vmod {α : Type} {n : Nat} (v : Vector α n) (i : Fin n) (f : α → α) : Vector α n := v.set i (f v[i])

/-- The number of bits set in a mask. -/
def popCount {w : Nat} (m : BitVec w) : Nat := ((List.range w).filter fun i => m.getLsbD i).length

/-- A mask with one bit set or cleared. -/
def setBit {w : Nat} (m : BitVec w) (i : Nat) (b : Bool) : BitVec w :=
  if b then m ||| (1#w <<< i) else m &&& ~~~(1#w <<< i)

/-- A counter of a status page. -/
def count (k : Nat) (c : Counters) : Counter := (aget k c).getD 0

/-- A counter of a status page raised by `n`, modulo 2^48. -/
def bumpBy (k n : Nat) (c : Counters) : Counters := aset k (count k c + BitVec.ofNat 48 n) c

/-- A counter of a status page raised by 1. -/
def bump (k : Nat) (c : Counters) : Counters := bumpBy k 1 c

/-- The byte at an address; an unlisted address reads 0 (R404: the clear of a cold start). -/
def readByte (m : Mem) (a : Nat) : Byte := (aget a m).getD 0

/-- Memory with a byte written, in canonical form: a 0 is not listed. -/
def writeByte (m : Mem) (a : Nat) (b : Byte) : Mem := if b = 0 then adel a m else aset a b m

/-- The canonical form of memory: addresses strictly rising, no byte 0 listed. -/
def Memory.wf : Mem → Bool
  | [] => true
  | [c] => c.2 != 0
  | c :: d :: r => c.2 != 0 && decide (c.1 < d.1) && Memory.wf (d :: r)

/-- The Reservoir holds word numbers below this (R32). -/
def resWords : Nat := 2 ^ 23

/-- The Reservoir holds byte addresses below this (R32). -/
def resBytes : Nat := 2 ^ 26

/-- The bank of a word (Table 2.5). -/
def bankOf (w : Nat) : Fin 8 := Fin.ofNat 8 (w / 2 ^ 20)

/-- The word at a word number, as stored. -/
def Reservoir.word (r : Reservoir) (w : Nat) : Word :=
  mkWord (readByte r.tags w) (ofBytes fun i => readByte r.data (8 * w + i))

/-- Data bytes written from a list, the first at the lowest address. -/
def writeBytes (m : Mem) (a : Nat) : List Byte → Mem
  | [] => m
  | b :: r => writeBytes (writeByte m a b) (a + 1) r

/-- The eight bytes of a data word, byte 0 first. -/
def bytesOf (d : Data) : List Byte := (List.range 8).map (byteOf d)

/-- A whole word written, with new check bits (R27). -/
def Reservoir.putWord (r : Reservoir) (w : Nat) (x : Word) : Reservoir :=
  { r with data := writeBytes r.data (8 * w) (bytesOf (dataOf x)), tags := writeByte r.tags w (tagOf x),
           errs := adel w r.errs }

/-- A correctable error of a word corrected, written back and counted (R27); nothing where the word has none. -/
def Reservoir.correct (r : Reservoir) (w : Nat) : Reservoir :=
  match aget w r.errs with
  | some .single => { r with errs := adel w r.errs, ce := vmod r.ce (bankOf w) (· + 1) }
  | _ => r

/-- An uncorrectable error of a word counted (R27). -/
def Reservoir.countUe (r : Reservoir) (w : Nat) : Reservoir :=
  { r with ue := vmod r.ue (bankOf w) (· + 1) }

/-- Whether a word holds an uncorrectable error. -/
def Reservoir.isBad (r : Reservoir) (w : Nat) : Bool := aget w r.errs = some .multi

/-- Whether a word holds a correctable error. -/
def Reservoir.isSingle (r : Reservoir) (w : Nat) : Bool := aget w r.errs = some .single

/-- The word as a read delivers it: corrected, or with POISON set where its error is uncorrectable (R27). -/
def Reservoir.deliver (r : Reservoir) (w : Nat) : Word :=
  let x := r.word w
  if r.isBad w then mkWord (poisonTag (tagOf x)) (dataOf x) else x

/-- The code word at a word number, 72 bits as stored (R29). -/
def Reservoir.code (r : Reservoir) (w : Nat) : BitVec 72 := r.word w

/-- The instruction at an IA (R45, R29): slot A is [71:36], slot B [35:0]. -/
def Reservoir.insn (r : Reservoir) (ia : BitVec 24) : BitVec 36 :=
  (r.code (ia.toNat / 2)).extractLsb' (if ia.getLsbD 0 then 0 else 36) 36

/-- The place of a subsystem's state. -/
def subIdx (u : Sub) (i : Nat) : Fin 22 := Fin.ofNat 22 (u.base + i)

/-- A subsystem's field as a bit vector. -/
def Subsys.get (x : Subsys) (k : Nat) : BitVec 64 := (aget k x.fields).getD 0

/-- A field of a subsystem as a natural number. -/
def State.fld (s : State) (u : Sub) (i k : Nat) : Nat := (s.subs[subIdx u i].get k).toNat

/-- A signed field of a subsystem. -/
def State.fldI (s : State) (u : Sub) (i k : Nat) : Int := (s.subs[subIdx u i].get k).toInt

/-- A field of a set of fields in force. -/
def forced (f : Assoc (BitVec 64)) (k : Nat) : Nat := ((aget k f).getD 0).toNat

/-- One thread changed. -/
def State.modThread (s : State) (t : Thread) (f : ThreadSt → ThreadSt) : State :=
  { s with seq := { s.seq with threads := vmod s.seq.threads t f } }

/-- One thread's state. -/
def State.thr (s : State) (t : Thread) : ThreadSt := s.seq.threads[t]

/-- One MX port's transaction layer changed. -/
def State.modMxt (s : State) (p : MxNo) (f : Mxt → Mxt) : State := { s with mxt := vmod s.mxt p f }

/-- One MX port's lane layer changed. -/
def State.modLn (s : State) (p : MxNo) (f : LanePort → LanePort) : State := { s with lanes := vmod s.lanes p f }

/-- One Parene port changed. -/
def State.modPb (s : State) (n : PbNo) (f : Pb → Pb) : State := { s with pb := vmod s.pb n f }

/-- One Riffle engine changed. -/
def State.modEng (s : State) (e : EngNo) (f : REng → REng) : State := { s with engines := vmod s.engines e f }

/-- One Riffle channel changed. -/
def State.modChan (s : State) (g : ChanNo) (f : RChan → RChan) : State := { s with chans := vmod s.chans g f }

/-- One subsystem changed. -/
def State.modSub (s : State) (u : Sub) (i : Nat) (f : Subsys → Subsys) : State :=
  { s with subs := vmod s.subs (subIdx u i) f }

/-- A counter of an MX port's transaction status raised (Table 7.14). -/
def State.bumpMxt (s : State) (p : MxNo) (k : Nat) : State := s.modMxt p fun m => { m with cnt := bump k m.cnt }

/-- A counter of a lane status page raised (Table 6.12). -/
def State.bumpLn (s : State) (p : MxNo) (k : Nat) : State := s.modLn p fun m => { m with cnt := bump k m.cnt }

/-- A counter of a PARENE status page raised (Tables 8.10, 9.6). -/
def State.bumpPb (s : State) (n : PbNo) (k : Nat) : State := s.modPb n fun b => { b with cnt := bump k b.cnt }

/-- A counter of a WEIR status page raised (Table 10.8). -/
def State.bumpWeir (s : State) (n : PbNo) (k : Nat) : State := s.modPb n fun b => { b with wcnt := bump k b.wcnt }

/-- A counter of the OXBOW status page raised (Table 10.9). -/
def State.bumpJ (s : State) (k : Nat) : State := { s with journal := { s.journal with cnt := bump k s.journal.cnt } }

/-- A counter of the LEVEE status page raised (Table 14.13). -/
def State.bumpLev (s : State) (k : Nat) : State := { s with sec := { s.sec with cnt := bump k s.sec.cnt } }

/-- A counter of the GROUP status page raised (Table 13.9). -/
def State.bumpGrp (s : State) (k : Nat) : State := { s with group := { s.group with cnt := bump k s.group.cnt } }

/-- A counter of the FIELD status page raised (Table 12.8). -/
def State.bumpField (s : State) (k : Nat) : State := { s with field := { s.field with cnt := bump k s.field.cnt } }

/-- The next free value and the state that has drawn it (log 7). -/
def State.draw (s : State) : BitVec 64 × State := (Config.freeBits s.free, { s with free := s.free + 1 })

/-- `n` free values in a row and the state that has drawn them. -/
def State.drawN (s : State) (n : Nat) : List (BitVec 64) × State :=
  ((List.range n).map fun i => Config.freeBits (s.free + i), { s with free := s.free + n })

/-- A fresh number for a producer or request. -/
def State.fresh (s : State) (n : Nat) : State := { s with nextId := s.nextId + n }

/-- Plant Time as a number of nanoseconds. -/
def State.plant (s : State) : Nat := s.time.now.toNat

/-- Whether a page is executable, or is one of the journal region while the journal is on (R30, R264). -/
def State.pageExec (s : State) (page : Nat) : Bool :=
  s.res.pages.contains page ||
    (let base := s.fld .oxbow 0 0 * 256
     base ≤ page && page < base + s.fld .oxbow 0 1 * 256)

/-- Whether any page of a byte range is executable under R264; an empty range touches none. -/
def State.touchesExec (s : State) (a n : Nat) : Bool :=
  n != 0 && (List.range ((a + n - 1) / 4096 - a / 4096 + 1)).any fun i => s.pageExec (a / 4096 + i)

/-- Whether the clocks of PD2 and PD7 run: no main reset, no low-power mode, no zeroisation (Table 15.3, R388). -/
def State.clocked (s : State) : Bool := !s.power.held && s.power.mode == .run && s.hcb.phase != .zeroised

/-- The debug level in force: 2 is open in PROVISION (R384). -/
def State.debugLevel (s : State) : BitVec 2 :=
  if s.sec.otp.life = .provision && s.hcb.phase != .zeroised then 2 else s.sec.dbgLevel

/-- Whether a port is present on the part (R2). -/
def State.hasPb (s : State) (n : Nat) : Bool := n < 2 || s.part == .gx7204

/-- Whether an MX port is present on the part (R2). -/
def State.hasMx (s : State) (p : Nat) : Bool := p < 1 || s.part == .gx7204

end Sys2Proof.Machine
end

