-- ==== Sys2Proof/Machine/Operands.lean ====
section
/-! DEFINITION. The 36-bit encodings of the instruction formats (Tables 3.2, 3.3) and the operand forms. -/

namespace Sys2Proof.Machine

/-- A register field. -/
def regBits (r : Reg) : BitVec 5 := BitVec.ofNat 5 r.val

/-- Format R with its opcode and function code. -/
def encR (op : BitVec 6) (fn : BitVec 6) (f : FmtR) : BitVec 36 :=
  op ++ regBits f.wd ++ regBits f.wa ++ regBits f.wb ++ fn ++ f.imm9

/-- Format I with its opcode. -/
def encI (op : BitVec 6) (f : FmtI) : BitVec 36 := op ++ regBits f.wd ++ regBits f.wa ++ f.imm

/-- Format M with its opcode. -/
def encM (op : BitVec 6) (f : FmtM) : BitVec 36 := op ++ regBits f.wd ++ f.q ++ f.zero ++ f.imm

/-- Format B with its opcode. -/
def encB (op : BitVec 6) (f : FmtB) : BitVec 36 := op ++ regBits f.wa ++ regBits f.wb ++ f.off

/-- Format J with its opcode. -/
def encJ (op : BitVec 6) (f : FmtJ) : BitVec 36 := op ++ regBits f.wd ++ f.off

/-- Format X with its opcode. -/
def encX (op : BitVec 6) (f : FmtX) : BitVec 36 :=
  op ++ regBits f.wd ++ regBits f.wa ++ regBits f.wb ++ f.route ++ BitVec.ofBool f.posted ++ f.size ++ f.count1 ++ f.zero

/-- Format C with its opcode and coprocessor function code. -/
def encC (op : BitVec 6) (cf : BitVec 7) (f : FmtC) : BitVec 36 :=
  op ++ regBits f.wd ++ regBits f.wa ++ regBits f.wb ++ cf ++ f.imm8

/-- Format S with its opcode. -/
def encS (op : BitVec 6) (f : FmtS) : BitVec 36 := op ++ regBits f.wa ++ regBits f.wb ++ f.sub ++ f.inst ++ f.sx

/-- A sign-extended IMM20 (Table 3.5). -/
def sext20 (i : BitVec 20) : Data := i.signExtend 64

/-- The effective address of a Reservoir load or store (R51). -/
def effAddr (base : Word) (i : BitVec 20) : Data := dataOf base + sext20 i

/-- The page field SX[12:9] of XCTL and XGET (Table 3.12). -/
def sxPage (f : FmtS) : Nat := (f.sx.extractLsb' 9 4).toNat

/-- The field number SX[8:3] of XCTL and XGET (Table 3.12). -/
def sxField (f : FmtS) : Nat := (f.sx.extractLsb' 3 6).toNat

end Sys2Proof.Machine
end

