-- ==== Sys2Proof/Machine/Insn.lean ====
section
/-! DEFINITION. The 36-bit instructions as the sequencer reads them: their fields (Table 3.2), which of them are defined (Tables
3.3 to 3.5, 3.7, 3.8, 3.11, 3.12), and what issue and commit need to know of each (R46, R50, R80, R81, R83, R88). -/

namespace Sys2Proof.Machine

/-! ### Fields (Table 3.2) -/

/-- The major opcode. -/
def opField (e : BitVec 36) : Nat := (e.extractLsb' 30 6).toNat

/-- The register field whose low bit is `lo`. -/
def regField (e : BitVec 36) (lo : Nat) : Reg := Fin.ofNat 32 (e.extractLsb' lo 5).toNat

/-- The function code of format R. -/
def fnField (e : BitVec 36) : Nat := (e.extractLsb' 9 6).toNat

/-- The function code of format C. -/
def cfField (e : BitVec 36) : Nat := (e.extractLsb' 8 7).toNat

/-- The fields of format R. -/
def fmtR (e : BitVec 36) : FmtR :=
  { wd := regField e 25, wa := regField e 20, wb := regField e 15, imm9 := e.extractLsb' 0 9 }

/-- The fields of format I. -/
def fmtI (e : BitVec 36) : FmtI := { wd := regField e 25, wa := regField e 20, imm := e.extractLsb' 0 20 }

/-- The fields of format X. -/
def fmtX (e : BitVec 36) : FmtX :=
  { wd := regField e 25, wa := regField e 20, wb := regField e 15, route := e.extractLsb' 13 2, posted := e.getLsbD 12,
    size := e.extractLsb' 10 2, count1 := e.extractLsb' 5 5, zero := e.extractLsb' 0 5 }

/-- The fields of format C. -/
def fmtC (e : BitVec 36) : FmtC :=
  { wd := regField e 25, wa := regField e 20, wb := regField e 15, imm8 := e.extractLsb' 0 8 }

/-- The fields of format S. -/
def fmtS (e : BitVec 36) : FmtS :=
  { wa := regField e 25, wb := regField e 20, sub := e.extractLsb' 16 4, inst := e.extractLsb' 13 3,
    sx := e.extractLsb' 0 13 }

/-! ### What issue needs to know -/

/-- What issue and commit need to know of an instruction: the registers it reads and writes, whether it starts at commit (R50),
whether it waits for its commit in the queue or is held at issue until then (log 89), its coprocessor unit, whether it accesses
the Reservoir or a target outside (R81), whether it is a branch or jump, or a conditional branch, and whether it always issues
alone (R81). -/
structure Use where
  srcs : List Reg := []
  wds : List Reg := []
  commit : Bool := false
  queued : Bool := false
  unit : Option CpUnit := none
  access : Bool := false
  branch : Bool := false
  cond : Bool := false
  alone : Bool := false

/-- An instruction that starts at any time. -/
def Use.any (srcs wds : List Reg) : Use := { srcs := srcs, wds := wds }

/-- A SYS instruction that starts at commit; it issues alone (R81). -/
def Use.sysCommit (queued : Bool) (srcs wds : List Reg) : Use :=
  { srcs := srcs, wds := wds, commit := true, queued := queued, alone := true }

/-- SYS (Table 3.8). -/
def sysUse (e : BitVec 36) : Option Use :=
  let f := fmtR e
  match fnField e with
  | 0x01 => some (Use.any [] [])
  | 0x02 => some (Use.sysCommit true [] [])
  | 0x03 => some (Use.any [] [])
  | 0x04 => some (Use.sysCommit false [] [])
  | 0x05 => some (Use.sysCommit true [] [])
  | 0x06 => some (Use.sysCommit false [f.wa] [f.wd])
  | 0x07 => some (Use.sysCommit true [f.wa] [])
  | 0x08 => some (Use.sysCommit true [] [])
  | 0x09 => some (Use.any [] [f.wd])
  | 0x0A => some (Use.sysCommit false [f.wa] [])
  | 0x0B => some (Use.any [] [f.wd])
  | 0x0C => some (Use.sysCommit true [] [f.wd])
  | 0x0D => some (Use.sysCommit false [f.wa] [])
  | n => if 0x10 ≤ n ∧ n ≤ 0x16 then some (Use.sysCommit false [] []) else none

/-- ALU register instructions (Table 3.4). -/
def aluUse (e : BitVec 36) : Option Use :=
  let f := fmtR e
  let n := fnField e
  if n ≤ 0x12 ∨ n = 0x1A then some (Use.any [f.wa, f.wb] [f.wd])
  else if n = 0x18 ∨ n = 0x19 then some (Use.any [f.wa] [f.wd])
  else none

/-- A Reservoir load (Table 3.5). -/
def loadUse (e : BitVec 36) (pair : Bool) : Use :=
  let f := fmtI e
  { srcs := [f.wa], wds := if pair then [f.wd, f.wd + 1] else [f.wd], access := true }

/-- A Reservoir store (Table 3.5). -/
def storeUse (e : BitVec 36) (pair : Bool) : Use :=
  let f := fmtI e
  { srcs := if pair then [f.wa, f.wd, f.wd + 1] else [f.wa, f.wd], commit := true, queued := true, access := true }

/-- An external access (Table 3.6). -/
def extUse (e : BitVec 36) (ldx : Bool) : Use :=
  let f := fmtX e
  { srcs := if ldx then [f.wa] else [f.wa, f.wd], wds := if ldx then [f.wd, f.wb] else [f.wb], commit := true,
    queued := true, access := true }

/-- A coprocessor instruction (Table 3.11): an EFFECT one starts at commit (R50). -/
def cpUse (u : CpUnit) (effect : Bool) (srcs wds : List Reg) : Option Use :=
  some { srcs := srcs, wds := wds, commit := effect, queued := effect, unit := some u }

/-- CP0 and CP1 (Table 3.11). -/
def cpLowUse (cp : Nat) (e : BitVec 36) : Option Use :=
  let f := fmtC e
  match cp, cfField e with
  | 0, 0x01 => cpUse .cp0 true [f.wa] []
  | 0, 0x02 => cpUse .cp0 true [f.wa] []
  | 0, 0x03 => cpUse .cp0 true [f.wa, f.wb] [f.wd]
  | 0, 0x04 => cpUse .cp0 true [f.wa] [f.wd]
  | 0, 0x05 => cpUse .cp0 true [f.wa] [f.wd]
  | 0, 0x06 => cpUse .cp0 true [f.wa, f.wb] []
  | 1, n => if 1 ≤ n ∧ n ≤ 4 then cpUse .cp1 false [f.wa, f.wb] [f.wd] else none
  | _, _ => none

/-- The registers of a digest (Table 3.11). -/
def digestRegs (wd : Reg) : List Reg := (List.range 6).map fun k => wd + Fin.ofNat 32 k

/-- CP2 and CP3 (Table 3.11). -/
def cpHighUse (cp : Nat) (e : BitVec 36) : Option Use :=
  let f := fmtC e
  match cp, cfField e with
  | 2, 0x01 => cpUse .hash false [f.wa, f.wb] (digestRegs f.wd)
  | 2, 0x02 => cpUse .ec false [f.wa] [f.wd]
  | 2, 0x10 => cpUse .aes true [f.wa] [f.wd]
  | 2, 0x11 => cpUse .aes true [f.wa] [f.wd]
  | 2, 0x12 => cpUse .ec true [f.wa] [f.wd]
  | 2, 0x13 => cpUse .rng true [f.wa] [f.wd]
  | 3, n => if 1 ≤ n ∧ n ≤ 4 then cpUse .cp3 true [f.wa, f.wb] [f.wd] else none
  | _, _ => none

/-- A set-up instruction: at commit, alone (R66, R81). -/
def setupUse (srcs : List Reg) : Option Use := some { srcs := srcs, commit := true, alone := true }

/-- Opcodes 0x34 to 0x3E (Table 3.12). -/
def formSUse (op : Nat) (e : BitVec 36) : Option Use :=
  let f := fmtS e
  let sx := f.sx.toNat
  match op with
  | 0x36 => if sx = 0 then setupUse [f.wa, f.wb] else if sx = 1 then setupUse [] else none
  | 0x37 => if sx ≤ 1 then setupUse [] else none
  | 0x38 => if f.sub.toNat ≤ 10 then setupUse [] else none
  | 0x39 => if sx ≤ 1 ∧ f.sub.toNat ≤ 10 then setupUse [] else none
  | 0x3A =>
    if 10 < f.sub.toNat then none
    else if sx % 8 = 0 then setupUse [f.wa]
    else if sx % 8 = 1 then some { wds := [f.wa], commit := true, queued := true }
    else none
  | _ => setupUse [f.wa, f.wb]

/-- What issue needs to know of an instruction; `none` where its opcode or function code is undefined, the all-zero instruction
among them (R46, Table 3.3). -/
def useOf (e : BitVec 36) : Option Use :=
  let op := opField e
  if op = 0x01 then sysUse e
  else if op = 0x02 then aluUse e
  else if 0x03 ≤ op ∧ op ≤ 0x0B then some (Use.any [(fmtI e).wa] [(fmtI e).wd])
  else if op = 0x0C then some (Use.any [] [(fmtI e).wd])
  else if op = 0x0D then some (Use.any [(fmtI e).wd] [(fmtI e).wd])
  else if (0x10 ≤ op ∧ op ≤ 0x13) ∨ op = 0x1A then some (loadUse e false)
  else if 0x14 ≤ op ∧ op ≤ 0x17 then some (storeUse e false)
  else if op = 0x18 then some (loadUse e true)
  else if op = 0x19 then some (storeUse e true)
  else if op = 0x1B then
    if fnField e = 0 then
      some { srcs := [(fmtR e).wa, (fmtR e).wb], wds := [(fmtR e).wd], commit := true, queued := true, access := true }
    else none
  else if 0x1C ≤ op ∧ op ≤ 0x1F then some (extUse e (op = 0x1C))
  else if 0x20 ≤ op ∧ op ≤ 0x27 then
    some { srcs := if 0x26 ≤ op then [regField e 25] else [regField e 25, regField e 20], branch := true, cond := true }
  else if op = 0x28 then some { wds := [(fmtI e).wd], branch := true }
  else if op = 0x29 then some { srcs := [(fmtI e).wa], wds := [(fmtI e).wd], branch := true }
  else if op = 0x30 ∨ op = 0x31 then cpLowUse (op - 0x30) e
  else if op = 0x32 ∨ op = 0x33 then cpHighUse (op - 0x30) e
  else if 0x34 ≤ op ∧ op ≤ 0x3E then formSUse op e
  else none

end Sys2Proof.Machine
end

