-- ==== Sys2Proof/Machine/Confluence.lean ====
section
/-! DEFINITION. Reservations, reads and writes of the Reservoir by threads and units, and the Confluence buffer
(R98, R109 to R114, R127 to R129). -/

namespace Sys2Proof.Machine

/-- The 64-byte line, and reservation granule, of a byte address (R109, R127). -/
def lineOf (a : Nat) : Nat := a / 64

/-- A word's line. -/
def lineOfWord (w : Nat) : Nat := w / 8

/-- A thread without a reservation on a granule (R128). -/
def ThreadSt.dropResv (g : Nat) (th : ThreadSt) : ThreadSt := { th with resv := if th.resv = some g then none else th.resv }

/-- A returned LLW that loses its claim to a granule before it commits (R128; log 20). -/
def CqEntry.loseClaim (g : Nat) (e : CqEntry) : CqEntry :=
  match e.what with
  | .returned l eff => { e with what := .returned l (eff.filter fun d => d != .reserve g) }
  | _ => e

/-- A thread without a reservation on a granule, and without an LLW still to commit there (R128; log 20). -/
def ThreadSt.loseResv (g : Nat) (th : ThreadSt) : ThreadSt :=
  { th.dropResv g with cq := th.cq.map (CqEntry.loseClaim g) }

/-- Every reservation on a granule cleared (Table 5.5). -/
def State.clearResv (s : State) (g : Nat) : State :=
  { s with seq := { s.seq with threads := s.seq.threads.map (ThreadSt.loseResv g) } }

/-- Every other thread's reservation on a granule cleared (Table 5.5). -/
def State.clearResvOthers (s : State) (t : Thread) (g : Nat) : State :=
  let s' := s.clearResv g
  { s' with seq := { s'.seq with threads := s'.seq.threads.set t (s.thr t) } }

/-- A correctable error of a word corrected, written back and counted, which clears reservations (R27, Table 5.5). -/
def State.correctWord (s : State) (w : Nat) : State :=
  if s.res.isSingle w then { s.clearResv (lineOfWord w) with res := s.res.correct w } else s

/-- An uncorrectable error met by a read that is not squashed, counted (R27). -/
def State.countUeWord (s : State) (w : Nat) : State :=
  if s.res.isBad w then { s with res := s.res.countUe w } else s

/-- A read of a word by a unit that is not squashed: corrections and counts (R27). -/
def State.unitRead (s : State) (w : Nat) : State := (s.correctWord w).countUeWord w

/-- A write of a whole word by a unit (Table 5.5). -/
def State.unitWrite (s : State) (w : Nat) (x : Word) : State :=
  { s.clearResv (lineOfWord w) with res := s.res.putWord w x }

/-- The bytes of `new` at the enabled places, those of `old` elsewhere. -/
def mergeBytes (old new : Data) (be : BitVec 8) : Data :=
  ofBytes fun i => if be.getLsbD i then byteOf new i else byteOf old i

/-- A word after a part of it has been written: whole, or merged with what stands there (R26). -/
def StorePart.over (p : StorePart) (old : Word) : Word :=
  if p.be = 0xFF then mkWord p.tag p.data
  else if p.be = 0 then old
  else mkWord (mergeTag (tagOf old) p.tag) (mergeBytes (dataOf old) p.data p.be)

/-- One part of a unit write (R26, R27, Table 5.5). -/
def State.unitStore (s : State) (p : StorePart) : State :=
  if p.be = 0xFF then s.unitWrite p.word (p.over 0)
  else
    let s := s.unitRead p.word
    s.unitWrite p.word (p.over (s.res.deliver p.word))

/-- An entry of the buffer with no store in it. -/
def CWord.none : CWord := { data := 0, be := 0, whole := false, tag := 0 }

/-- What a word becomes when the entry's stores are applied to it (R110). -/
def CWord.over (c : CWord) (base : Word) : Word :=
  if c.be = 0 then base
  else mkWord (if c.whole then c.tag else mergeTag (tagOf base) c.tag) (mergeBytes (dataOf base) c.data c.be)

/-- One more store into an entry's word: the data stands at its byte places, `be` enables it (R110). -/
def CWord.store (c : CWord) (d : Data) (be : BitVec 8) (tag : Byte) : CWord :=
  if be = 0xFF then { data := d, be := 0xFF, whole := true, tag := tag }
  else { data := mergeBytes c.data d be, be := c.be ||| be, whole := c.whole,
         tag := if c.be = 0 then tag else mergeTag c.tag tag }

/-- A word as a thread reads it: its own entries, oldest first, over the Reservoir's word (R98, R113). -/
def State.ownRead (s : State) (t : Thread) (w : Nat) : Word :=
  (s.seq.conf.filter fun e => e.thread = t && e.line = lineOfWord w).foldl
    (fun x e => (e.words[Fin.ofNat 8 w]).over x) (s.res.deliver w)

/-- Whether the thread's own entries leave bytes of the word to be read from the Reservoir. -/
def State.readsRes (s : State) (t : Thread) (w : Nat) : Bool :=
  !(s.seq.conf.any fun e => e.thread = t && e.line = lineOfWord w && (e.words[Fin.ofNat 8 w]).whole)

/-- An entry that has started to drain (R109: it is then closed). -/
def CEntry.start (e : CEntry) : CEntry := { e with draining := true, isOpen := false }

/-- Whether all 64 bytes of an entry are enabled (R111). -/
def CEntry.full (e : CEntry) : Bool := e.words.all fun c => c.be = 0xFF

/-- The entries of a thread on the lines `p` start to drain (R105, R111). -/
def startDrains (t : Thread) (p : Nat → Bool) (l : List CEntry) : List CEntry :=
  l.map fun e => if e.thread = t && p e.line then e.start else e

/-- The oldest entries that are not draining start to, until no more than 24 are not (R111). -/
def drainOldest : Nat → List CEntry → List CEntry
  | 0, l => l
  | _, [] => []
  | k + 1, e :: r => if e.draining then e :: drainOldest (k + 1) r else e.start :: drainOldest k r

/-- Drains that become due when an entry has been filled or taken (R111). -/
def dueDrains (l : List CEntry) : List CEntry :=
  let l := l.map fun e => if e.full then e.start else e
  drainOldest ((l.filter fun e => !e.draining).length - 24) l

/-- Whether a thread has entries on the lines from byte `a`, `n` bytes long: R113's overlap is taken by lines, not by enabled
bytes (DESIGN CHOICE, log 91). -/
def State.overlaps (s : State) (t : Thread) (a n : Nat) : Bool :=
  n != 0 && s.seq.conf.any fun e => e.thread = t && lineOf a ≤ e.line && e.line ≤ lineOf (a + n - 1)

/-- The thread's overlapping entries start to drain before a unit reads or writes there (R113, R451). -/
def State.drainRange (s : State) (t : Thread) (a n : Nat) : State :=
  { s with seq := { s.seq with
      conf := startDrains t (fun l => lineOf a ≤ l && l ≤ lineOf (a + n - 1)) s.seq.conf } }

/-- Whether a store has room: an open entry of the thread for the line, or a free entry within the limits (R109, R114). -/
def State.canStore (s : State) (t : Thread) (line : Nat) : Bool :=
  (s.seq.conf.any fun e => e.thread = t && e.line = line && e.isOpen) ||
    (s.seq.conf.length < 32 && (s.seq.conf.filter fun e => e.thread = t).length < 12)

/-- A store joined into the open entry of its thread and line (R109). -/
def joinStore (t : Thread) (line w : Nat) (d : Data) (be : BitVec 8) (tag : Byte) : List CEntry → List CEntry
  | [] => [{ thread := t, line := line, isOpen := true, draining := false,
             words := vmod (Vector.replicate 8 CWord.none) (Fin.ofNat 8 w) fun c => c.store d be tag }]
  | e :: r =>
    if e.thread = t && e.line = line && e.isOpen then
      { e with words := vmod e.words (Fin.ofNat 8 w) fun c => c.store d be tag } :: r
    else e :: joinStore t line w d be tag r

/-- A committed store into one line (R109), which clears the thread's own reservation there (Table 5.5); the parts of a
pair are stored together (R123). -/
def State.store (s : State) (t : Thread) (line : Nat) (l : List StorePart) : State :=
  let s := s.modThread t (ThreadSt.dropResv line)
  let conf := l.foldl (fun c p => joinStore t line p.word p.data p.be p.tag c) s.seq.conf
  { s with seq := { s.seq with conf := dueDrains conf } }

/-- The words of a line as a drain writes them, with the counts of its reads (R110). -/
def State.drainWord (s : State) (line : Nat) (i : Fin 8) (c : CWord) : State :=
  let w := 8 * line + i.val
  if c.be = 0 then s
  else
    let s := if c.whole then s else s.unitRead w
    { s with res := s.res.putWord w (c.over (s.res.deliver w)) }

/-- Whether another thread's protection window holds a drain (R129). -/
def State.protHolds (s : State) (t : Thread) (g : Nat) : Bool :=
  s.seq.prot.any fun p => p.granule = g && p.owner != t

/-- The first of a list that satisfies `p`, taken out. -/
def takeFirst {α : Type} (p : α → Bool) : List α → Option (α × List α)
  | [] => none
  | x :: r => if p x then some (x, r) else (takeFirst p r).map fun q => (q.1, x :: q.2)

/-- The waiting thread that follows `owner` first in round-robin order of thread number (R129). -/
def nextOwner (q : List Prot) (g : Nat) (owner : Thread) : Option Prot :=
  ((List.range 8).map fun k => Prot.mk g (Fin.ofNat 8 (owner.val + k + 1))).find? fun p => q.contains p

/-- The protection window of a granule ended, and the next waiting thread's opened (R129). -/
def State.endProt (s : State) (g : Nat) : State :=
  match s.seq.prot.find? fun p => p.granule = g with
  | none => s
  | some cur =>
    let rest := s.seq.prot.filter fun p => p.granule != g
    match nextOwner s.seq.protQueue g cur.owner with
    | some p => { s with seq := { s.seq with prot := rest ++ [p], protQueue := s.seq.protQueue.erase p } }
    | none => { s with seq := { s.seq with prot := rest } }

/-- A protection window opened for a thread, or queued behind the granule's open one (R129). -/
def State.openProt (s : State) (t : Thread) (g : Nat) : State :=
  if s.seq.prot.any fun p => p.granule = g then
    if s.seq.prot.any (fun p => p.granule = g && p.owner = t) || s.seq.protQueue.any (fun p => p.granule = g && p.owner = t)
    then s
    else { s with seq := { s.seq with protQueue := s.seq.protQueue ++ [{ granule := g, owner := t }] } }
  else { s with seq := { s.seq with prot := s.seq.prot ++ [{ granule := g, owner := t }] } }

end Sys2Proof.Machine
end

