-- ==== Sys2Proof/Machine/Thread.lean ====
section
/-! DEFINITION. Threads: registers, events, exceptions, speculation, issue (R44 to R64, R79 to R96, R104 to R108). -/

namespace Sys2Proof.Machine

/-- A register as an instruction reads it; W0 reads 0 (R25, R44). -/
def RegFile.read (f : RegFile) (r : Reg) : Word := if r = 0 then 0 else f.regs[r]

/-- A register written; writes to W0 are discarded (R44). -/
def RegFile.write (f : RegFile) (r : Reg) (w : Word) : RegFile :=
  if r = 0 then f else { regs := f.regs.set r w, waits := f.waits.set r 0 }

/-- A register that waits for a producer (R80); W0 never does. -/
def RegFile.await (f : RegFile) (r : Reg) (id : Nat) : RegFile :=
  if r = 0 then f else { f with waits := f.waits.set r id }

/-- Whether a register can be read. -/
def RegFile.ready (f : RegFile) (r : Reg) : Bool := r = 0 || f.waits[r] = 0

/-- A register that awaited `old` awaits `new` instead, or for 0 holds `w`. -/
def RegFile.rename (f : RegFile) (old new : Nat) (w : Word) : RegFile :=
  { regs := Vector.ofFn fun i => if f.waits[i] = old then w else f.regs[i],
    waits := f.waits.map fun k => if k = old then new else k }

/-- The same for a captured operand. -/
def Operand.rename (o : Operand) (old new : Nat) (w : Word) : Operand := if o.id = old then { id := new, val := w } else o

/-- The same for an instruction in the commit queue: its register checkpoint, and a branch's operands. -/
def CqEntry.rename (e : CqEntry) (old new : Nat) (w : Word) : CqEntry :=
  { e with
      ckpt := e.ckpt.rename old new w,
      what := match e.what with
        | .branch b => .branch { b with a := b.a.rename old new w, b := b.b.rename old new w }
        | x => x }

/-- The same for a thread. -/
def ThreadSt.rename (th : ThreadSt) (old new : Nat) (w : Word) : ThreadSt :=
  { th with rf := th.rf.rename old new w, cq := th.cq.map fun e => e.rename old new w }

/-- A producer's result delivered to a thread (R94: to no register that no longer waits for it). -/
def ThreadSt.deliver (th : ThreadSt) (id : Nat) (w : Word) : ThreadSt := th.rename id 0 w

/-- The unresolved branches of a thread, oldest first (R83). -/
def ThreadSt.branches (th : ThreadSt) : List Branch :=
  th.cq.filterMap fun e => match e.what with
    | .branch b => some b
    | _ => none

/-- The outstanding loads of a thread, oldest first. -/
def ThreadSt.loads (th : ThreadSt) : List Load :=
  th.cq.filterMap fun e => match e.what with
    | .load l => some l
    | _ => none

/-- The numbers of the started PURE operations of a list of queued instructions. -/
def startedPures (l : List CqEntry) : List Nat :=
  l.filterMap fun e => match e.what with
    | .pure op => some op
    | _ => none

/-- A register of a thread written. -/
def State.setReg (s : State) (t : Thread) (r : Reg) (w : Word) : State :=
  s.modThread t fun th => { th with rf := th.rf.write r w }

/-- A register of a thread that waits for a producer. -/
def State.awaitReg (s : State) (t : Thread) (r : Reg) (id : Nat) : State :=
  s.modThread t fun th => { th with rf := th.rf.await r id }

/-- A register of a thread as its next instruction reads it. -/
def State.reg (s : State) (t : Thread) (r : Reg) : Word := (s.thr t).rf.read r

/-- A producer's result delivered to a thread's registers. -/
def State.deliverTo (s : State) (t : Thread) (id : Nat) (w : Word) : State := s.modThread t fun th => th.deliver id w

/-! ### Events (Table 3.10, R60) -/

/-- The global number of an engine's channel (R282). -/
def chanNo (e : EngNo) (c : Nat) : ChanNo := Fin.ofNat 64 (16 * e.val + c)

/-- The engine of a channel (R282). -/
def engOf (g : ChanNo) : EngNo := Fin.ofNat 4 (g.val / 16)

/-- Whether a queue operation is a push to a channel. -/
def QueueOp.pushes (g : ChanNo) : QueueOp → Bool
  | .push h _ => h == g
  | .pop _ => false

/-- A channel as its mirror shows it once it has caught up: queue operations on their way are in it (R423). -/
def State.mirrorOf (s : State) (g : ChanNo) : ChanMirror :=
  let c := s.chans[g]
  let ops := s.engines[engOf g].ops
  { tx := c.txq.length + (ops.filter (QueueOp.pushes g)).length, rx := c.rxq.drop (ops.filter fun o => o == .pop g).length,
    flags := c.flags, pc := c.pc }

/-- The mirrors of an engine's channels brought up to date (R423; log 46). -/
def State.refreshMirror (s : State) (e : EngNo) : State :=
  { s with mirror := Vector.ofFn fun g => if engOf g = e then s.mirrorOf g else s.mirror[g] }

/-- A mirror changed. -/
def State.modMirror (s : State) (g : ChanNo) (f : ChanMirror → ChanMirror) : State := { s with mirror := vmod s.mirror g f }

/-- The words of a channel's RX queue as the CP0 mirror shows them (R423). -/
def State.rxMirror (s : State) (g : ChanNo) : List Word := s.mirror[g].rx

/-- Flags of a channel changed by what the SEQ island sees at once: its mirror shows them (R424). -/
def State.showFlags (s : State) (g : ChanNo) (f : BitVec 7 → BitVec 7) : State :=
  (s.modChan g fun c => { c with flags := f c.flags }).modMirror g fun m => { m with flags := f m.flags }

/-- Whether a channel raises attention (R306). -/
def State.attention (s : State) (g : ChanNo) : Bool :=
  let mask := s.chans[g].cfg.attnMask
  (s.mirror[g].flags &&& mask.extractLsb' 0 7) != 0 || (mask.getLsbD 7 && !(s.rxMirror g).isEmpty)

/-- Event RIFn (R306). -/
def State.rifEvent (s : State) (e : EngNo) : Bool :=
  (s.engines[e].flags.extractLsb' 4 4 != 0) || (List.range 16).any fun c => s.attention (chanNo e c)

/-- The acknowledge word's sequence number (R325). -/
def State.gaugeAck (s : State) : BitVec 24 := (dataOf (s.res.deliver (s.fld .gauge 0 3 / 8))).extractLsb' 0 24

/-- Event GAUGE (R326). -/
def State.gaugeEvent (s : State) : Bool := s.fld .gauge 0 2 != 0 && s.gauge.seq != s.gaugeAck

/-- The Reservoir word of a LOCAL route's delivery address (R240). -/
def Route.deliveryWord (r : Route) : Nat := (r.addr.extractLsb' 0 26).toNat / 8

/-- Event INT (R240). -/
def State.intEvent (s : State) : Bool :=
  s.routes.any fun r => r.2.isLocal && tagValid (tagOf (s.res.deliver r.2.deliveryWord))

/-- The level events pending for a thread (Table 3.10). -/
def State.levels (s : State) (t : Thread) : BitVec 13 :=
  BitVec.ofBool (decide ((s.thr t).timercmp.toNat ≤ s.plant)) ++ 0#4 ++ BitVec.ofBool s.intEvent ++
    BitVec.ofBool s.gaugeEvent ++ BitVec.ofBool (s.rifEvent 3) ++ BitVec.ofBool (s.rifEvent 2) ++
    BitVec.ofBool (s.rifEvent 1) ++ BitVec.ofBool (s.rifEvent 0) ++ BitVec.ofBool (decide (s.hcb.mbOut.length < 16)) ++
    BitVec.ofBool (!s.hcb.mbIn.isEmpty)

/-- The sticky events of Table 3.10: bits 8 to 11. -/
def stickyMask : BitVec 13 := 0x0F00

/-- An instruction that has waited completes: WD written, the wait over, IA on (R60). -/
def ThreadSt.returnEv (th : ThreadSt) (wd : Reg) (ev : BitVec 13) : ThreadSt :=
  { th with rf := th.rf.write wd (constWord (ev.setWidth 64)), wait := .none, ia := th.ia + 1 }

/-- One thread's WAITEV returned when an event of its mask is pending, `sticky` among them; returned sticky events are cleared
(R60). -/
def State.wakeThread (sticky : BitVec 13) (s : State) (t : Thread) : State :=
  match (s.thr t).wait with
  | .waitev wd mask =>
    let ev := (s.levels t ||| sticky) &&& mask
    if ev = 0 then s
    else
      let s := s.modThread t fun th => th.returnEv wd ev
      { s with seq := { s.seq with sticky := s.seq.sticky &&& ~~~ev } }
  | _ => s

/-- All eight threads, T0 first. -/
def allThreads : List Thread := [0, 1, 2, 3, 4, 5, 6, 7]

/-- Every thread that waits for an event now pending returns (R60), while the sequencer has its clock. -/
def State.wake (s : State) : State := if s.clocked then allThreads.foldl (State.wakeThread s.seq.sticky) s else s

/-- Whether a thread waits for an event. -/
def State.waitsFor (s : State) (ev : BitVec 13) (t : Thread) : Bool :=
  match (s.thr t).wait with
  | .waitev _ mask => (mask &&& ev) != 0
  | _ => false

/-- One waiting thread returned with a sticky event that has just become pending (R60). -/
def State.giveSticky (ev : BitVec 13) (s : State) (t : Thread) : State :=
  match (s.thr t).wait with
  | .waitev wd mask =>
    if (mask &&& ev) = 0 then s else s.modThread t fun th => th.returnEv wd ((s.levels t ||| ev) &&& mask)
  | _ => s

/-- A sticky event becomes pending: it is returned to every thread that waits on it and is then clear, or it stays (R60). -/
def State.raiseEvent (s : State) (ev : BitVec 13) : State :=
  if s.clocked && allThreads.any (s.waitsFor ev) then allThreads.foldl (State.giveSticky ev) s
  else { s with seq := { s.seq with sticky := s.seq.sticky ||| ev } }

/-- Event JRNL. -/
def evJrnl : BitVec 13 := 0x0100
/-- Event GROUP. -/
def evGroup : BitVec 13 := 0x0200
/-- Event LINK. -/
def evLink : BitVec 13 := 0x0400
/-- Event FIELD. -/
def evField : BitVec 13 := 0x0800

/-! ### Exceptions (R61 to R64) -/

/-- HANDLER when it means none (Table 3.9). -/
def noHandler : BitVec 32 := 0xFFFFFFFF

/-- The thread's side of an exception (R62): the exception registers, and handler mode at HANDLER or a stopped thread. -/
def ThreadSt.except (th : ThreadSt) (cause : BitVec 6) (info : BitVec 64) (xia : BitVec 24) : ThreadSt :=
  let th := { th with xia := xia, xcause := cause, xinfo := info, wait := .none }
  if th.handler = noHandler || th.hmode then
    { th with run := .stoppedExc, statCause := if th.hmode then 0x0E else cause }
  else { th with hmode := true, ia := th.handler.extractLsb' 0 24, resv := none }

/-- Taking an exception (R62): the thread's side, and HOSTPEND[3] when the thread stops (R409). -/
def State.except (s : State) (t : Thread) (cause : BitVec 6) (info : BitVec 64) (xia : BitVec 24) : State :=
  let s' := s.modThread t fun th => th.except cause info xia
  if (s'.thr t).run = .stoppedExc then { s' with hcb := { s'.hcb with stopped := setBit s'.hcb.stopped t.val true } } else s'

/-- ERET in handler mode (Table 3.8, R96). -/
def ThreadSt.eret (th : ThreadSt) : ThreadSt := { th with hmode := false, ia := th.xia, resv := none }

/-- The exception codes of Table 3.17 that instructions raise. -/
def xFetchError : BitVec 6 := 0x02
/-- FETCH_ATTR. -/
def xFetchAttr : BitVec 6 := 0x03
/-- ILLEGAL. -/
def xIllegal : BitVec 6 := 0x01
/-- ABSENT_UNIT. -/
def xAbsent : BitVec 6 := 0x08
/-- EXPERT_LOCK. -/
def xLock : BitVec 6 := 0x07
/-- SETUP_OPERAND. -/
def xSetup : BitVec 6 := 0x09
/-- ENGINE_RUNNING. -/
def xEngine : BitVec 6 := 0x0A
/-- ALIGN. -/
def xAlign : BitVec 6 := 0x06
/-- ADDR_RANGE. -/
def xRange : BitVec 6 := 0x05
/-- DATA_ATTR. -/
def xDataAttr : BitVec 6 := 0x04
/-- JUMP_TARGET. -/
def xJump : BitVec 6 := 0x0B
/-- CP_FAULT. -/
def xCpFault : BitVec 6 := 0x0C
/-- TRAP. -/
def xTrap : BitVec 6 := 0x0D

/-! ### The commit queue (R82, R85) -/

/-- An effect that a load leaves to its commit, carried out (R27, R87, R96, R129). -/
def State.applyDeferred (t : Thread) (s : State) (d : Deferred) : State :=
  match d with
  | .correct w => s.correctWord w
  | .uncorrectable w => s.countUeWord w
  | .reserve g =>
    let fails := (s.thr t).scFails
    let s := s.modThread t fun th => { th with resv := some g }
    if 2 ≤ fails then s.openProt t g else s

/-- Whether an operation of a unit belongs to a thread and is not squashed. -/
def CpOp.live (o : CpOp) (t : Thread) : Bool := o.thread = t && !o.shadow

/-- Whether every older instruction of a thread has committed (R82; log 89). -/
def State.allCommitted (s : State) (t : Thread) : Bool := (s.thr t).cq.isEmpty

/-- The queued instructions of a thread from the k-th on are gone: its registers and IA stand as they stood before that one, and each
counts as squashed (R85, R94). -/
def ThreadSt.squashFrom (th : ThreadSt) (k : Nat) : ThreadSt :=
  match th.cq[k]? with
  | none => th
  | some e => { th with rf := e.ckpt, ia := e.ia, cq := th.cq.take k, squashed := th.squashed + BitVec.ofNat 48 (th.cq.length - k) }

/-- Started PURE operations run on into the shadow (R93). -/
def shadowOps (gone : List Nat) (l : List CpOp) : List CpOp :=
  l.map fun o => if gone.contains o.id then { o with shadow := true } else o

/-- A thread's queued instructions squashed from the k-th on (R85, R93). -/
def State.squashFrom (s : State) (t : Thread) (k : Nat) : State :=
  let gone := startedPures ((s.thr t).cq.drop k)
  let s := s.modThread t fun th => th.squashFrom k
  { s with seq := { s.seq with ops := shadowOps gone s.seq.ops } }

/-! ### Barriers and OTOK (Table 5.4, R106, R108) -/

/-- Whether an external access loads (Table 5.2). -/
def ExtKind.loads : ExtKind → Bool
  | .ldx => true | .xrdb => true | _ => false

/-- Whether an external access stores (Table 5.2). -/
def ExtKind.stores : ExtKind → Bool
  | .ldx => false | _ => true

/-- Whether a barrier's condition holds (Table 5.4). The Reservoir writes of GCMSEAL, GCMOPEN and IDSIGN have no event in Table
5.2, so that no barrier waits for them (DESIGN CHOICE, log 91). -/
def State.fenceDone (s : State) (t : Thread) (k : FenceNeeds) : Bool :=
  (!k.loads || !(s.seq.ext.any fun x => x.thread = t && x.kind.loads && !x.performed)) &&
  (!k.stores || (!(s.seq.conf.any fun e => e.thread = t) &&
    !(s.seq.ext.any fun x => x.thread = t && x.kind.stores && !x.performed))) &&
  (!k.io || (!(s.seq.ext.any fun x => x.thread = t && x.kind.stores && !x.completed) &&
    !(s.seq.postedOut.any fun q => q.thread = t)))

/-- Whether OTOK's wait is over (R108). -/
def State.otokDone (s : State) (t : Thread) (d : Byte) : Bool :=
  !(s.seq.ext.any fun x => x.thread = t && x.route = 0 && x.odom = d && !x.performed)

/-- A thread's token for a domain; GEN 0 and SEQ 0 at image start (R248). -/
def ThreadSt.token (th : ThreadSt) (d : Byte) : Byte × Byte := (aget d.toNat th.otok).getD (0, 0)

/-- OTOK's advance: GEN up by 1, SEQ 0 (R248). -/
def ThreadSt.advanceTok (th : ThreadSt) (d : Byte) : ThreadSt :=
  { th with otok := aset d.toNat ((th.token d).1 + 1, 0) th.otok }

/-- A thread whose barrier or OTOK has what it waited for waits no longer. -/
def State.unblock (s : State) (t : Thread) : State :=
  match (s.thr t).wait with
  | .fence k => if s.fenceDone t k then s.modThread t fun th => { th with wait := .none } else s
  | .otok d =>
    if s.otokDone t d then s.modThread t fun th => { th.advanceTok d with wait := .none } else s
  | _ => s

/-- A thread that stops after its committed instructions stops when none is left: no queued instruction, no barrier, OTOK or
MBWR that waits, no coprocessor operation, no external access (R59). -/
def State.checkStop (s : State) (t : Thread) : State :=
  let th := s.thr t
  if th.stopping && th.cq.isEmpty && th.wait == .none && !(s.seq.ops.any fun o => o.live t) &&
      !(s.seq.ext.any fun x => x.thread = t && !x.performed) then
    s.modThread t fun th => { th with stopping := false, run := .halted, resv := none }
  else s

/-! ### Issue -/

/-- What an instruction's meaning answers: done and on to IA + 1, done and on to another IA, an exception, one more entry in the
commit queue, committed and waiting, or not started now. -/
inductive Issued
  | done (s : State)
  | jump (s : State) (ia : BitVec 24)
  | except (cause : BitVec 6) (info : BitVec 64)
  | entry (s : State) (id : Nat) (what : CqWhat) (ia : BitVec 24)
  | wait (s : State)
  | stall (s : State)

/-- Whether threads run at all: PHASE RUN, no reset, no entry into a low-power mode (R14, R398, R404). -/
def State.live (s : State) : Bool :=
  s.hcb.phase == .run && !s.power.held && s.power.mode == .run && s.power.entering == none

/-- The Reservoir byte address of the code word at an IA. -/
def iaByte (ia : BitVec 24) : BitVec 64 := (ia.setWidth 64 >>> 1) <<< 3

/-- Whether a fetch at an IA meets a page from which instructions may be fetched (R31, R264). -/
def State.fetchable (s : State) (ia : BitVec 24) : Bool :=
  let page := ia.toNat / 1024
  s.res.pages.contains page &&
    !(let base := s.fld .oxbow 0 0 * 256
      base ≤ page && page < base + s.fld .oxbow 0 1 * 256)

/-- Whether a thread's fetch is stopped: the oldest of its branches is still unresolved since a third one was met (R83). -/
def ThreadSt.fetchStopped (th : ThreadSt) : Bool :=
  match th.fetchStop with
  | none => false
  | some id => th.branches.any fun b => b.id == id

/-- Whether a thread runs and neither stops nor waits (R80). -/
def State.active (s : State) (t : Thread) : Bool :=
  s.live && (s.thr t).run == .running && !(s.thr t).stopping && (s.thr t).wait == .none && !(s.thr t).fetchStopped

/-- Whether a thread may be selected: one that has given up its turn is passed over (R79, R80). -/
def State.selectable (s : State) (t : Thread) : Bool := s.active t && !(s.thr t).yielded

/-- The unit of a queued instruction that still has to be dispatched there. -/
def CqEntry.asks (e : CqEntry) (u : CpUnit) : Bool :=
  match e.what with
  | .want => (useOf e.enc).any fun k => k.unit == some u
  | .start => (useOf e.enc).any fun k => k.unit == some u
  | _ => false

/-- Whether a coprocessor instruction of a thread is held at IS: one operation of the thread is outstanding in the unit, or two in
CP1 (R88). -/
def State.unitHeld (s : State) (t : Thread) (u : CpUnit) : Bool :=
  decide ((if u = .cp1 then 2 else 1) ≤
    (s.seq.ops.filter fun o => o.unit = u && o.live t).length + ((s.thr t).cq.filter fun e => e.asks u).length)

/-- Whether a thread has a place for one more instruction: in its commit queue (R80), in the unit (R88), and for a conditional
branch among the unresolved ones (R83). -/
def State.hasPlace (s : State) (t : Thread) (k : Use) : Bool :=
  decide ((s.thr t).cq.length < 8) && !(k.unit.any fun u => s.unitHeld t u) &&
    !(k.cond && decide (2 ≤ (s.thr t).branches.length))

/-- Whether the thread's next instruction is `enc`, fetched without error, and can start: its source registers are produced, there
is a place for it, and, for one that starts at commit, every older instruction has committed (R45, R50, R80, R82). -/
def State.canStart (s : State) (t : Thread) (enc : BitVec 36) (srcs : List Reg) (commit : Bool) : Bool :=
  s.fetchable (s.thr t).ia && !s.res.isBad ((s.thr t).ia.toNat / 2) && s.res.insn (s.thr t).ia == enc &&
    (useOf enc).any (s.hasPlace t) && (srcs.all fun r => (s.thr t).rf.ready r) && (!commit || s.allCommitted t)

/-- Whether the thread's next instruction is `enc`, one that starts at commit but issues now and waits for its commit in the
queue (R50, R82). -/
def State.canQueue (s : State) (t : Thread) (enc : BitVec 36) (srcs : List Reg) (commit : Bool) : Bool :=
  commit && !s.allCommitted t && s.canStart t enc srcs false && (useOf enc).any fun k => k.queued

/-- The fetch exception of a thread's next instruction, or ILLEGAL for an undefined one, in the order of Table 3.17 (R28, R31,
R46, R64). -/
def State.fetchFault (s : State) (t : Thread) : Option (BitVec 6 × BitVec 64) :=
  let ia := (s.thr t).ia
  if s.res.isBad (ia.toNat / 2) then some (xFetchError, iaByte ia)
  else if !s.fetchable ia then some (xFetchAttr, iaByte ia)
  else if (useOf (s.res.insn ia)).isNone then some (xIllegal, (s.res.insn ia).setWidth 64)
  else none

/-! ### Selection (R79, R81) -/

/-- Whether the instruction stands second in a pair: it belongs to the cycle of the selection before (R81). -/
def State.inSlot (s : State) (t : Thread) : Bool := s.seq.slot == some (t, (s.thr t).ia)

/-- Whether an active thread is ready (R80). -/
def State.ready (s : State) (t : Thread) : Bool :=
  s.active t &&
    match s.fetchFault t with
    | some _ => s.allCommitted t
    | none => (useOf (s.res.insn (s.thr t).ia)).any fun k =>
        s.hasPlace t k && (k.cond || k.srcs.all fun r => (s.thr t).rf.ready r) &&
          (!k.commit || k.queued || s.allCommitted t)

/-- The ready threads that IS meets before `t`, after the thread it selected last (R79). -/
def State.ahead (s : State) (t : Thread) : List Thread :=
  (((List.range 8).map fun k => s.seq.lastSel + Fin.ofNat 8 (k + 1)).takeWhile (· != t)).filter s.ready

/-- Whether IS selects `t` for a first instruction, and the state then. Of the ready threads ahead of it, those that have given up
their turn are passed over, once; each other must miss in the instruction cache, which a free value says (R79, R80; log 90). -/
def State.arbitrate (s : State) (t : Thread) : Bool × State :=
  if s.inSlot t || (s.ahead t).isEmpty then (true, s)
  else
    let d := s.draw
    let rivals := (s.ahead t).filter fun x => !(s.thr x).yielded
    if rivals.all fun x => d.1.getLsbD x.val then
      (true, (s.ahead t).foldl (fun s x => s.modThread x fun th => { th with yielded := false }) d.2)
    else (false, d.2)

/-- Whether the instruction after the thread's next one issues with it (R81), once the next one has gone on to it. -/
def State.pairs (s : State) (t : Thread) : Bool :=
  let ia := (s.thr t).ia
  match useOf (s.res.insn ia), useOf (s.res.insn (ia + 1)) with
  | some a, some b =>
    !a.alone && !b.alone && !(b.srcs.any fun r => r != 0 && a.wds.contains r) && !(a.access && b.access) &&
      !(a.unit.isSome && b.unit.isSome) && !(a.branch && b.branch)
  | _, _ => false

/-- IS has selected a thread, and its cycle is open for one more instruction or not (R79, R81). -/
def State.markSel (s : State) (t : Thread) (slot : Option (Thread × BitVec 24)) : State :=
  { s with seq := { s.seq with lastSel := t, slot := slot } }

/-- An instruction of `t` counted as issued, `n` being the state after it: ISSUE counts a selection once (Table 4.5), and the
cycle stays open for the second of a pair that is ready in it (R81). -/
def State.counted (s : State) (t : Thread) (n : State) : State :=
  let second := s.inSlot t
  let pair := !second && s.pairs t && (n.thr t).ia == (s.thr t).ia + 1 && n.selectable t && n.ready t
  (n.modThread t fun th => { th with issued := if second then th.issued else th.issued + 1 }).markSel t
    (if pair then some (t, (s.thr t).ia + 1) else none)

/-! ### What issuing does -/

/-- Registers that await the numbers from `id` on, in their order. -/
def State.awaitAll (s : State) (t : Thread) (id : Nat) (l : List Reg) : State :=
  l.zipIdx.foldl (fun s p => s.awaitReg t p.1 (id + p.2)) s

/-- One more instruction in a thread's commit queue: the thread's next one as it stood in `s`. -/
def State.enqueue (s : State) (t : Thread) (id : Nat) (what : CqWhat) (n : State) : State :=
  let e : CqEntry := { id := id, ia := (s.thr t).ia, enc := s.res.insn (s.thr t).ia, ckpt := (s.thr t).rf, what := what }
  n.modThread t fun th => { th with cq := th.cq ++ [e] }

/-- The thread goes on at an IA; an instruction that is done waits in the queue for the older ones (R82). -/
def State.goOn (s : State) (t : Thread) (n : State) (ia : BitVec 24) : State :=
  let n := if s.allCommitted t then n else s.enqueue t n.nextId .done n
  s.counted t (n.modThread t fun th => { th with ia := ia })

/-- An instruction that issues and leaves its effect to its commit: its registers await it (R50, R82). -/
def State.postpone (s : State) (t : Thread) (what : CqWhat) (n : State) : State :=
  let id := n.nextId
  let wds := ((useOf (s.res.insn (s.thr t).ia)).map fun k => k.wds).getD []
  let n := (s.enqueue t id what (n.fresh 8)).awaitAll t id wds
  s.counted t (n.modThread t fun th => { th with ia := (s.thr t).ia + 1 })

/-- What follows from what an instruction's meaning answers. An exception is raised once every older instruction has
committed (R61, R82); one that starts at commit and cannot yet waits at CM, where others can issue behind it (R114). -/
def State.finish (s : State) (t : Thread) : Issued → State
  | .done n => s.goOn t n ((s.thr t).ia + 1)
  | .jump n ia => s.goOn t n ia
  | .except c i =>
    if s.allCommitted t then s.counted t (s.except t c i (s.thr t).ia) else s.postpone t (.fault c i) s
  | .entry n id what ia => s.counted t ((s.enqueue t id what n).modThread t fun th => { th with ia := ia })
  | .wait n => s.counted t n
  | .stall n => if (useOf (s.res.insn (s.thr t).ia)).any fun k => k.queued then s.postpone t .start n else n

/-- A code word's correctable error corrected by the fetch of an instruction that commits as it issues (R27, R87). -/
def State.fetchCorrect (s : State) (t : Thread) : State :=
  if (s.thr t).cq.isEmpty then s.correctWord ((s.thr t).ia.toNat / 2) else s

/-- A fetch exception, or ILLEGAL of an undefined instruction, raised once every older instruction has committed. -/
def State.fetchExcept (s : State) (t : Thread) (x : BitVec 6 × BitVec 64) : State :=
  (s.countUeWord ((s.thr t).ia.toNat / 2)).except t x.1 x.2 (s.thr t).ia

/-- The thread's next instruction (R28, R31, R46, R50, R82). A command that is not the thread's next instruction, or that
cannot issue yet, has no effect. -/
def State.tryIssue (s : State) (t : Thread) (enc : BitVec 36) (srcs : List Reg) (commit : Bool)
    (body : State → Issued) : State :=
  match s.fetchFault t with
  | some x =>
    if s.allCommitted t then (if (s.arbitrate t).1 then (s.arbitrate t).2.fetchExcept t x else (s.arbitrate t).2) else s
  | none =>
    if s.canStart t enc srcs commit then
      let r := s.arbitrate t
      if r.1 then (r.2.fetchCorrect t).finish t (body (r.2.fetchCorrect t)) else r.2
    else if s.canQueue t enc srcs commit then
      let r := s.arbitrate t
      if r.1 then r.2.postpone t .start r.2 else r.2
    else s

/-- One turn of a thread with the instruction `enc` (R79 to R83): a yielded thread is passed over once. -/
def State.issue (s : State) (t : Thread) (enc : BitVec 36) (srcs : List Reg) (commit : Bool)
    (body : State → Issued) : State :=
  let s := if s.live then s.unblock t else s
  if s.selectable t then s.tryIssue t enc srcs commit body
  else if s.active t then s.modThread t fun th => { th with yielded := false }
  else s

/-- An instruction that is illegal in this form raises ILLEGAL with its encoding (R46, Table 3.17). -/
def Issued.unless (illegal : Bool) (enc : BitVec 36) (r : Issued) : Issued :=
  if illegal then .except xIllegal (enc.setWidth 64) else r

end Sys2Proof.Machine
end

