-- ==== Sys2Proof/Machine/Alu.lean ====
section
/-! DEFINITION. ALU register and immediate instructions and the moves (Tables 3.4, 3.5; R46 to R49). -/

namespace Sys2Proof.Machine

/-- The outcome of a meaning whose effect is a function of the state. -/
abbrev Next := Host.Outcome State Fault Refusal

/-- The shift amount of a register or immediate: its bits [5:0] (Table 3.4). -/
def shiftBy (b : Data) : Nat := (b.extractLsb' 0 6).toNat

/-- 1 or 0. -/
def flag (b : Bool) : Data := if b then 1 else 0

/-- An ALU register instruction on two operands; IMM9 must be 0 (Table 3.2), the tags merge (R25). -/
def aluRegister (t : Thread) (fn : BitVec 6) (f : FmtR) (op : Data → Data → Data) (s : State) : State :=
  s.issue t (encR 0x02 fn f) [f.wa, f.wb] false fun s =>
    let a := s.reg t f.wa
    let b := s.reg t f.wb
    Issued.unless (f.imm9 != 0) (encR 0x02 fn f)
      (.done (s.setReg t f.wd (mkWord (mergeTag (tagOf a) (tagOf b)) (op (dataOf a) (dataOf b)))))

/-- An ALU register instruction on WA alone; the WB field and IMM9 must be 0. -/
def aluSingle (t : Thread) (fn : BitVec 6) (f : FmtR) (op : Word → Word) (s : State) : State :=
  s.issue t (encR 0x02 fn f) [f.wa] false fun s =>
    Issued.unless (f.imm9 != 0 || f.wb != 0) (encR 0x02 fn f) (.done (s.setReg t f.wd (op (s.reg t f.wa))))

/-- An ALU immediate instruction: IMM20 sign-extended in place of WB, the tag that of WA (R47). -/
def aluImmediate (t : Thread) (opc : BitVec 6) (f : FmtI) (op : Data → Data → Data) (s : State) : State :=
  s.issue t (encI opc f) [f.wa] false fun s =>
    let a := s.reg t f.wa
    .done (s.setReg t f.wd (mkWord (tagOf a) (op (dataOf a) (sext20 f.imm))))

/-- A shift by an immediate; IMM20[19:6] must be 0 (Table 3.5). -/
def aluShiftImm (t : Thread) (opc : BitVec 6) (f : FmtI) (op : Data → Data → Data) (s : State) : State :=
  s.issue t (encI opc f) [f.wa] false fun s =>
    let a := s.reg t f.wa
    Issued.unless (f.imm.extractLsb' 6 14 != 0) (encI opc f)
      (.done (s.setReg t f.wd (mkWord (tagOf a) (op (dataOf a) (sext20 f.imm)))))

/-- A 16-bit value placed in quarter q (KSET, Table 3.5). -/
def placeQuarter (q : BitVec 2) (imm : BitVec 16) : Data := imm.setWidth 64 <<< (16 * q.toNat)

/-- The word TAGDOWN gives (Table 3.4, R49). -/
def tagDown (a b : Word) : Word :=
  let t := tagOf a
  let m := dataOf b
  let low := m.extractLsb' 0 2
  mkWord (mkTag (tagOrigin t) (if (tagTrust t).toNat ≤ low.toNat then tagTrust t else low)
    (tagValid t && !m.getLsbD 3) (tagPoison t || m.getLsbD 2)) (dataOf a)

/-- ADD (Table 3.4). -/
def execAdd (t : Thread) (f : FmtR) (s : State) : Next :=
  .next (aluRegister t 0x00 f (fun a b => a + b) s)

/-- SUB (Table 3.4). -/
def execSub (t : Thread) (f : FmtR) (s : State) : Next :=
  .next (aluRegister t 0x01 f (fun a b => a - b) s)

/-- AND (Table 3.4). -/
def execAndR (t : Thread) (f : FmtR) (s : State) : Next :=
  .next (aluRegister t 0x02 f (fun a b => a &&& b) s)

/-- OR (Table 3.4). -/
def execOrR (t : Thread) (f : FmtR) (s : State) : Next :=
  .next (aluRegister t 0x03 f (fun a b => a ||| b) s)

/-- XOR (Table 3.4). -/
def execXorR (t : Thread) (f : FmtR) (s : State) : Next :=
  .next (aluRegister t 0x04 f (fun a b => a ^^^ b) s)

/-- ANDN (Table 3.4). -/
def execAndn (t : Thread) (f : FmtR) (s : State) : Next :=
  .next (aluRegister t 0x05 f (fun a b => a &&& ~~~b) s)

/-- SHL (Table 3.4). -/
def execShl (t : Thread) (f : FmtR) (s : State) : Next :=
  .next (aluRegister t 0x06 f (fun a b => a <<< shiftBy b) s)

/-- SHR (Table 3.4). -/
def execShr (t : Thread) (f : FmtR) (s : State) : Next :=
  .next (aluRegister t 0x07 f (fun a b => a >>> shiftBy b) s)

/-- SAR (Table 3.4). -/
def execSar (t : Thread) (f : FmtR) (s : State) : Next :=
  .next (aluRegister t 0x08 f (fun a b => a.sshiftRight (shiftBy b)) s)

/-- ROL (Table 3.4). -/
def execRol (t : Thread) (f : FmtR) (s : State) : Next :=
  .next (aluRegister t 0x09 f (fun a b => a.rotateLeft (shiftBy b)) s)

/-- MUL (Table 3.4). -/
def execMul (t : Thread) (f : FmtR) (s : State) : Next :=
  .next (aluRegister t 0x0a f (fun a b => a * b) s)

/-- MULHU (Table 3.4). -/
def execMulhu (t : Thread) (f : FmtR) (s : State) : Next :=
  .next (aluRegister t 0x0b f (fun a b => BitVec.ofNat 64 (a.toNat * b.toNat / 2 ^ 64)) s)

/-- SEQ (Table 3.4). -/
def execSeq (t : Thread) (f : FmtR) (s : State) : Next :=
  .next (aluRegister t 0x0c f (fun a b => flag (a = b)) s)

/-- SLT (Table 3.4). -/
def execSlt (t : Thread) (f : FmtR) (s : State) : Next :=
  .next (aluRegister t 0x0d f (fun a b => flag (a.slt b)) s)

/-- SLTU (Table 3.4). -/
def execSltu (t : Thread) (f : FmtR) (s : State) : Next :=
  .next (aluRegister t 0x0e f (fun a b => flag (a.ult b)) s)

/-- MIN (Table 3.4). -/
def execMin (t : Thread) (f : FmtR) (s : State) : Next :=
  .next (aluRegister t 0x0f f (fun a b => if a.sle b then a else b) s)

/-- MAX (Table 3.4). -/
def execMax (t : Thread) (f : FmtR) (s : State) : Next :=
  .next (aluRegister t 0x10 f (fun a b => if a.sle b then b else a) s)

/-- MINU (Table 3.4). -/
def execMinu (t : Thread) (f : FmtR) (s : State) : Next :=
  .next (aluRegister t 0x11 f (fun a b => if a.ule b then a else b) s)

/-- MAXU (Table 3.4). -/
def execMaxu (t : Thread) (f : FmtR) (s : State) : Next :=
  .next (aluRegister t 0x12 f (fun a b => if a.ule b then b else a) s)

/-- MOV: WA copied with its tag (Table 3.4). -/
def execMov (t : Thread) (f : FmtR) (s : State) : Next := .next (aluSingle t 0x18 f (fun a => a) s)

/-- TAGGET: the tag of WA as data, zero above, with WA's tag (Table 3.4). -/
def execTagget (t : Thread) (f : FmtR) (s : State) : Next :=
  .next (aluSingle t 0x19 f (fun a => mkWord (tagOf a) ((tagOf a).setWidth 64)) s)

/-- TAGDOWN: the one instruction that lowers a tag (Table 3.4, R49). -/
def execTagdown (t : Thread) (f : FmtR) (s : State) : Next :=
  .next (s.issue t (encR 0x02 0x1A f) [f.wa, f.wb] false fun s =>
    Issued.unless (f.imm9 != 0) (encR 0x02 0x1A f)
      (.done (s.setReg t f.wd (tagDown (s.reg t f.wa) (s.reg t f.wb)))))

/-- ADDI (Table 3.5). -/
def execAddi (t : Thread) (f : FmtI) (s : State) : Next :=
  .next (aluImmediate t 0x03 f (fun a b => a + b) s)

/-- ANDI (Table 3.5). -/
def execAndi (t : Thread) (f : FmtI) (s : State) : Next :=
  .next (aluImmediate t 0x04 f (fun a b => a &&& b) s)

/-- ORI (Table 3.5). -/
def execOri (t : Thread) (f : FmtI) (s : State) : Next :=
  .next (aluImmediate t 0x05 f (fun a b => a ||| b) s)

/-- XORI (Table 3.5). -/
def execXori (t : Thread) (f : FmtI) (s : State) : Next :=
  .next (aluImmediate t 0x06 f (fun a b => a ^^^ b) s)

/-- SLTI (Table 3.5). -/
def execSlti (t : Thread) (f : FmtI) (s : State) : Next :=
  .next (aluImmediate t 0x07 f (fun a b => flag (a.slt b)) s)

/-- SLTUI (Table 3.5). -/
def execSltui (t : Thread) (f : FmtI) (s : State) : Next :=
  .next (aluImmediate t 0x08 f (fun a b => flag (a.ult b)) s)

/-- SHLI (Table 3.5). -/
def execShli (t : Thread) (f : FmtI) (s : State) : Next :=
  .next (aluShiftImm t 0x09 f (fun a b => a <<< shiftBy b) s)

/-- SHRI (Table 3.5). -/
def execShri (t : Thread) (f : FmtI) (s : State) : Next :=
  .next (aluShiftImm t 0x0a f (fun a b => a >>> shiftBy b) s)

/-- SARI (Table 3.5). -/
def execSari (t : Thread) (f : FmtI) (s : State) : Next :=
  .next (aluShiftImm t 0x0b f (fun a b => a.sshiftRight (shiftBy b)) s)

/-- KSET: IMM16 in quarter Q, the other quarters 0, constant tag (Table 3.5). -/
def execKset (t : Thread) (f : FmtM) (s : State) : Next :=
  .next (s.issue t (encM 0x0C f) [] false fun s =>
    Issued.unless (f.zero != 0) (encM 0x0C f) (.done (s.setReg t f.wd (constWord (placeQuarter f.q f.imm)))))

/-- KXOR: quarter Q of WD exclusive-ORed with IMM16, the tag that of WD (Table 3.5, R47). -/
def execKxor (t : Thread) (f : FmtM) (s : State) : Next :=
  .next (s.issue t (encM 0x0D f) [f.wd] false fun s =>
    let d := s.reg t f.wd
    Issued.unless (f.zero != 0) (encM 0x0D f)
      (.done (s.setReg t f.wd (mkWord (tagOf d) (dataOf d ^^^ placeQuarter f.q f.imm)))))

end Sys2Proof.Machine
end

