-- ==== Sys2Proof/Machine/LoadStore.lean ====
section
/-! DEFINITION. Reservoir loads and stores, LLW and SCW (Table 3.5, R51, R98, R109, R122, R123, R127). -/

namespace Sys2Proof.Machine

/-- The bytes of a Reservoir access (Table 3.5). -/
def LdKind.size : LdKind → Nat
  | .byte => 1 | .half => 2 | .quad => 4 | .word => 8 | .linked => 8 | .pair => 16

/-- The exception that a Reservoir access at an effective address raises, in the order of Table 3.17 (R31, R32, R51,
R264). -/
def State.accessFault (s : State) (a : Data) (n : Nat) : Option (BitVec 6) :=
  if a.toNat % n != 0 then some xAlign
  else if resBytes ≤ a.toNat then some xRange
  else if s.touchesExec a.toNat n then some xDataAttr
  else none

/-- Whether a unit still has words to write for a thread in a byte range (R451). -/
def State.unitPending (s : State) (t : Thread) (a n : Nat) : Bool :=
  (s.seq.ops.any fun o => o.thread = t && o.writes.any fun w => a / 8 ≤ w.word && w.word ≤ (a + n - 1) / 8) ||
    (s.seq.ext.any fun x => x.thread = t && x.kind == .xrdb && !x.performed && x.rdst < a + n && a < x.rdst + x.len)

/-! ### Loads -/

/-- The numbers a load's registers wait for: its own, and for a pair the next (R98). -/
def State.startLoad (s : State) (t : Thread) (k : LdKind) (wd : Reg) : State :=
  let id := s.nextId
  let s := (s.awaitReg t wd id).fresh 2
  if k = .pair then s.awaitReg t (wd + 1) (id + 1) else s

/-- A Reservoir load at issue (R51). It does not wait for an outstanding XRDB of its thread to the same bytes, whose words land
later (R117; DESIGN CHOICE, log 91). -/
def load (t : Thread) (opc : BitVec 6) (k : LdKind) (f : FmtI) (s : State) : State :=
  s.issue t (encI opc f) [f.wa] false fun s =>
    let a := effAddr (s.reg t f.wa) f.imm
    if k = .pair && f.wd.val % 2 = 1 then .except xIllegal ((encI opc f).setWidth 64)
    else match s.accessFault a k.size with
      | some c => .except c a
      | none =>
        .entry (s.startLoad t k f.wd) s.nextId (.load { id := s.nextId, kind := k, addr := a.toNat }) ((s.thr t).ia + 1)

/-- The data of a load from the word that holds its address (Table 3.5). -/
def LdKind.extract (k : LdKind) (a : Nat) (w : Word) : Word :=
  match k with
  | .byte => mkWord (tagOf w) (((dataOf w) >>> (8 * (a % 8))) &&& 0xFF)
  | .half => mkWord (tagOf w) (((dataOf w) >>> (8 * (a % 8))) &&& 0xFFFF)
  | .quad => mkWord (tagOf w) (((dataOf w) >>> (8 * (a % 8))) &&& 0xFFFFFFFF)
  | _ => w

/-- What a load leaves to its commit for one word it read from the Reservoir (R27, R87). -/
def State.deferredOf (s : State) (t : Thread) (w : Nat) : List Deferred :=
  if !s.readsRes t w then []
  else if s.res.isSingle w then [.correct w]
  else if s.res.isBad w then [.uncorrectable w]
  else []

/-- The place of an outstanding load in the commit queue. -/
def ThreadSt.loadPlace (th : ThreadSt) (id : Nat) : Nat :=
  th.cq.findIdx fun e => match e.what with
    | .load l => l.id == id
    | _ => false

/-- A load's data delivered, and what it leaves to its commit kept with it (R87, R96, R98). -/
def State.returnLoad (s : State) (t : Thread) (l : Load) : State :=
  let w := l.addr / 8
  let s1 := s.deliverTo t l.id (l.kind.extract l.addr (s.ownRead t w))
  let s2 := if l.kind = .pair then s1.deliverTo t (l.id + 1) (s.ownRead t (w + 1)) else s1
  let d := s.deferredOf t w ++ (if l.kind = .pair then s.deferredOf t (w + 1) else []) ++
    (if l.kind = .linked then [Deferred.reserve (lineOf l.addr)] else [])
  s2.modThread t fun th =>
    { th with cq := th.cq.modify ((s.thr t).loadPlace l.id) fun e => { e with what := .returned l d } }

/-- Whether two byte ranges share a word. -/
def sharesWord (r q : Nat × Nat) : Bool :=
  r.2 != 0 && q.2 != 0 && decide (r.1 / 8 ≤ (q.1 + q.2 - 1) / 8) && decide (q.1 / 8 ≤ (r.1 + r.2 - 1) / 8)

/-- The Reservoir bytes that a queued store, SCW, HASH384 or ECVERIFY will access, from the registers before it. -/
def CqEntry.range (e : CqEntry) : Option (Nat × Nat) :=
  let f := fmtI e.enc
  let a := (effAddr (e.ckpt.read f.wa) f.imm).toNat
  let ra := (dataOf (e.ckpt.read f.wa)).toNat
  match opField e.enc with
  | 0x14 => some (a, 8)
  | 0x15 => some (a, 1)
  | 0x16 => some (a, 2)
  | 0x17 => some (a, 4)
  | 0x19 => some (a, 16)
  | 0x1B => some (ra, 8)
  | 0x32 =>
    if cfField e.enc = 0x01 then some (ra, (dataOf (e.ckpt.read (fmtC e.enc).wb)).toNat)
    else if cfField e.enc = 0x02 then some (ra, 240)
    else none
  | _ => none

/-- The bytes that a queued instruction has still to load or store: an outstanding load's, or those of a store or unit read that
has not started (R98). -/
def CqEntry.toAccess (e : CqEntry) : Option (Nat × Nat) :=
  match e.what with
  | .load l => some (l.addr, l.kind.size)
  | .want => e.range
  | .start => e.range
  | _ => none

/-- Whether an access to a byte range has to wait for one that is older (R98): for an older store, SCW or unit read not yet
started, and for an older load not yet performed. -/
def olderAccess (older : List CqEntry) (r : Nat × Nat) : Bool := older.any fun e => e.toAccess.any (sharesWord r)

/-- RESERVOIR_LOAD_RETURN: the k-th outstanding load of the thread, oldest first, is performed and returns; loads of different
words come back in any order (R98, R101). -/
def State.loadReturns (s : State) (t : Thread) (k : Nat) : State :=
  match (s.thr t).loads[k]? with
  | none => s
  | some l =>
    if olderAccess ((s.thr t).cq.take ((s.thr t).loadPlace l.id)) (l.addr, l.kind.size) then s else s.returnLoad t l

/-! ### Stores -/

/-- The byte enables of a store within its word. -/
def LdKind.enables (k : LdKind) (a : Nat) : BitVec 8 :=
  match k with
  | .byte => 0x01 <<< (a % 8)
  | .half => 0x03 <<< (a % 8)
  | .quad => 0x0F <<< (a % 8)
  | _ => 0xFF

/-- The parts of a store (R26, Table 3.5). -/
def storeParts (k : LdKind) (a : Nat) (x y : Word) : List StorePart :=
  let first : StorePart := { word := a / 8, data := dataOf x <<< (8 * (a % 8)), be := k.enables a, tag := tagOf x }
  if k = .pair then [first, { word := a / 8 + 1, data := dataOf y, be := 0xFF, tag := tagOf y }] else [first]

/-- The registers that a store reads. -/
def storeSrcs (k : LdKind) (f : FmtI) : List Reg := if k = .pair then [f.wa, f.wd, f.wd + 1] else [f.wa, f.wd]

/-- A Reservoir store at its commit (R51, R109, R114, R451): it waits while the buffer has no room for it or a unit has still to
write there. -/
def storeAt (t : Thread) (opc : BitVec 6) (k : LdKind) (f : FmtI) (s : State) : Issued :=
  let a := effAddr (s.reg t f.wa) f.imm
  if k = .pair && f.wd.val % 2 = 1 then .except xIllegal ((encI opc f).setWidth 64)
  else match s.accessFault a k.size with
    | some c => .except c a
    | none =>
      if s.unitPending t a.toNat k.size || !s.canStore t (lineOf a.toNat) then .stall s
      else .done (s.store t (lineOf a.toNat) (storeParts k a.toNat (s.reg t f.wd) (s.reg t (f.wd + 1))))

/-- A Reservoir store. -/
def store (t : Thread) (opc : BitVec 6) (k : LdKind) (f : FmtI) (s : State) : State :=
  s.issue t (encI opc f) (storeSrcs k f) true (storeAt t opc k f)

/-- Whether an SCW succeeds: the reservation is held on the granule and no other thread's window holds it (R127, R129). -/
def State.scSucceeds (s : State) (t : Thread) (g : Nat) : Bool := (s.thr t).resv == some g && !s.protHolds t g

/-- The decision of SCW: the word written or not, the reservation gone, the failures counted, the thread's own protection
window ended (R127, R129, Table 5.5). -/
def State.storeConditional (s : State) (t : Thread) (wd : Reg) (a : Nat) (x : Word) : State :=
  let g := lineOf a
  let ok := s.scSucceeds t g
  let s := if ok then { s.clearResvOthers t g with res := s.res.putWord (a / 8) x } else s
  let s := s.modThread t fun th => { th with resv := none, scFails := if ok then 0 else th.scFails + 1 }
  let s := if s.seq.prot.any fun p => p.granule = g && p.owner = t then s.endProt g else s
  (s.setReg t wd (constWord (flag ok))).wake

/-- SCW at its commit (Table 3.5, R127): it waits first for the thread's own entries of the granule to drain. -/
def storeCondAt (t : Thread) (f : FmtR) (s : State) : Issued :=
  let a := dataOf (s.reg t f.wa)
  if f.imm9 != 0 then .except xIllegal ((encR 0x1B 0x00 f).setWidth 64)
  else match s.accessFault a 8 with
    | some c => .except c a
    | none =>
      let line := 64 * lineOf a.toNat
      if s.overlaps t line 64 then .stall (s.drainRange t line 64)
      else if s.unitPending t a.toNat 8 then .stall s
      else .done (s.storeConditional t f.wd a.toNat (s.reg t f.wb))

/-- SCW. -/
def storeCond (t : Thread) (f : FmtR) (s : State) : State :=
  s.issue t (encR 0x1B 0x00 f) [f.wa, f.wb] true (storeCondAt t f)

/-- LDW (Table 3.5). -/
def execLdw (t : Thread) (f : FmtI) (s : State) : Next := .next (load t 0x10 .word f s)

/-- LDB (Table 3.5). -/
def execLdb (t : Thread) (f : FmtI) (s : State) : Next := .next (load t 0x11 .byte f s)

/-- LDH (Table 3.5). -/
def execLdh (t : Thread) (f : FmtI) (s : State) : Next := .next (load t 0x12 .half f s)

/-- LDQ (Table 3.5). -/
def execLdq (t : Thread) (f : FmtI) (s : State) : Next := .next (load t 0x13 .quad f s)

/-- STW (Table 3.5). -/
def execStw (t : Thread) (f : FmtI) (s : State) : Next := .next (store t 0x14 .word f s)

/-- STB (Table 3.5). -/
def execStb (t : Thread) (f : FmtI) (s : State) : Next := .next (store t 0x15 .byte f s)

/-- STH (Table 3.5). -/
def execSth (t : Thread) (f : FmtI) (s : State) : Next := .next (store t 0x16 .half f s)

/-- STQ (Table 3.5). -/
def execStq (t : Thread) (f : FmtI) (s : State) : Next := .next (store t 0x17 .quad f s)

/-- LDW2 (Table 3.5, R123). -/
def execLdw2 (t : Thread) (f : FmtI) (s : State) : Next := .next (load t 0x18 .pair f s)

/-- STW2 (Table 3.5, R123). -/
def execStw2 (t : Thread) (f : FmtI) (s : State) : Next := .next (store t 0x19 .pair f s)

/-- LLW (Table 3.5, R127). -/
def execLlw (t : Thread) (f : FmtI) (s : State) : Next := .next (load t 0x1A .linked f s)

/-- SCW (R127). -/
def execScw (t : Thread) (f : FmtR) (s : State) : Next := .next (storeCond t f s)

end Sys2Proof.Machine
end

