-- ==== Sys2Proof/Machine/Branch.lean ====
section
/-! DEFINITION. Branches, jumps and the resolution of branches (Table 3.7, R45, R48, R56, R83 to R86, R93 to R96). -/

namespace Sys2Proof.Machine

/-- Whether a branch is taken (Table 3.7, R48). -/
def BrCond.taken (c : BrCond) (a b : Word) : Bool :=
  match c with
  | .eq => dataOf a == dataOf b
  | .ne => dataOf a != dataOf b
  | .lt => (dataOf a).slt (dataOf b)
  | .ge => !(dataOf a).slt (dataOf b)
  | .ltu => (dataOf a).ult (dataOf b)
  | .geu => !(dataOf a).ult (dataOf b)
  | .poi => tagPoison (tagOf a)
  | .emp => !tagValid (tagOf a)

/-- Whether a branch tests one register alone, so that its WB field is 0 (Table 3.7). -/
def BrCond.single : BrCond → Bool
  | .poi => true
  | .emp => true
  | _ => false

/-- The major opcode of a branch (Table 3.7). -/
def BrCond.opcode : BrCond → BitVec 6
  | .eq => 0x20 | .ne => 0x21 | .lt => 0x22 | .ge => 0x23 | .ltu => 0x24 | .geu => 0x25 | .poi => 0x26 | .emp => 0x27

/-- A source captured by a branch: a word or the producer it waits for. -/
def RegFile.capture (f : RegFile) (r : Reg) : Operand :=
  if f.ready r then { id := 0, val := f.read r } else { id := f.waits[r], val := 0 }

/-- The target of a branch or JAL from its own IA (Table 3.7). -/
def target (ia : BitVec 24) (off : BitVec 24) : BitVec 24 := ia + off

/-- The IA at which a branch goes on. -/
def brNext (ia : BitVec 24) (off : BitVec 20) (taken : Bool) : BitVec 24 :=
  if taken then target ia (off.signExtend 24) else ia + 1

/-- A conditional branch at issue: resolved at once when its operands are ready, else unresolved on the path that `pred`
gives (R83, R84). -/
def condBranch (t : Thread) (c : BrCond) (f : FmtB) (pred : Bool) (s : State) : State :=
  s.issue t (encB c.opcode f) [] false fun s =>
    let th := s.thr t
    if c.single && f.wb != 0 then .except xIllegal ((encB c.opcode f).setWidth 64)
    else if th.rf.ready f.wa && th.rf.ready f.wb then
      let tk := c.taken (th.rf.read f.wa) (th.rf.read f.wb)
      let s := if tk = pred then s else s.modThread t fun th => { th with mispredict := th.mispredict + 1 }
      .jump s (brNext th.ia f.off tk)
    else
      let b : Branch :=
        { id := s.nextId, cond := c, a := th.rf.capture f.wa, b := th.rf.capture f.wb, pred := pred,
          other := brNext th.ia f.off (!pred) }
      .entry (s.fresh 1) s.nextId (.branch b) (brNext th.ia f.off pred)

/-- The return IA that JAL and JALR write, with constant tag (Table 3.7). -/
def returnIa (ia : BitVec 24) : Word := constWord ((ia + 1).setWidth 64)

/-- JAL (Table 3.7). -/
def jumpLink (t : Thread) (f : FmtJ) (s : State) : State :=
  s.issue t (encJ 0x28 f) [] false fun s =>
    let ia := (s.thr t).ia
    .jump (s.setReg t f.wd (returnIa ia)) (target ia (f.off.setWidth 24))

/-- JALR (Table 3.7, R56). -/
def jumpLinkReg (t : Thread) (f : FmtI) (s : State) : State :=
  s.issue t (encI 0x29 f) [f.wa] false fun s =>
    let w := s.reg t f.wa
    let d := dataOf w + sext20 f.imm
    if !isGood w || 2 ^ 24 ≤ d.toNat then .except xJump d
    else .jump (s.setReg t f.wd (returnIa (s.thr t).ia)) (d.setWidth 24)

/-- The place of an unresolved branch in the commit queue. -/
def ThreadSt.branchPlace (th : ThreadSt) (id : Nat) : Nat :=
  th.cq.findIdx fun e => match e.what with
    | .branch b => b.id == id
    | _ => false

/-- A branch resolved: it waits in the queue with nothing left to do. -/
def ThreadSt.resolved (th : ThreadSt) (id : Nat) : ThreadSt :=
  { th with cq := th.cq.modify (th.branchPlace id) fun e => { e with what := .done } }

/-- Fetch has met a third conditional branch while two were unresolved: it stays stopped until the oldest resolves (R83). -/
def State.meetBranch (s : State) (t : Thread) : State :=
  let th := s.thr t
  if decide (2 ≤ th.branches.length) && (useOf (s.res.insn th.ia)).any fun k => k.cond then
    s.modThread t fun th => { th with fetchStop := th.branches.head?.map fun b => b.id }
  else s

/-- A mispredicted branch resolved: the younger instructions squashed, their started PURE operations run on into the shadow, and
the other path taken (R85, R93, R94, R96). -/
def State.mispredict (s : State) (t : Thread) (b : Branch) : State :=
  (s.squashFrom t ((s.thr t).branchPlace b.id + 1)).modThread t fun th =>
    { th with ia := b.other, yielded := false, mispredict := th.mispredict + 1 }

/-- An unresolved branch of a thread, once both its operands have arrived, resolves (R83). -/
def State.resolve (s : State) (t : Thread) (b : Branch) : State :=
  let s := s.meetBranch t
  let s := if b.cond.taken b.a.val b.b.val = b.pred then s else s.mispredict t b
  s.modThread t fun th => th.resolved b.id

/-- BEQ (Table 3.7). -/
def execBeq (t : Thread) (f : FmtB) (pred : Bool) (s : State) : Next := .next (condBranch t .eq f pred s)

/-- BNE (Table 3.7). -/
def execBne (t : Thread) (f : FmtB) (pred : Bool) (s : State) : Next := .next (condBranch t .ne f pred s)

/-- BLT (Table 3.7). -/
def execBlt (t : Thread) (f : FmtB) (pred : Bool) (s : State) : Next := .next (condBranch t .lt f pred s)

/-- BGE (Table 3.7). -/
def execBge (t : Thread) (f : FmtB) (pred : Bool) (s : State) : Next := .next (condBranch t .ge f pred s)

/-- BLTU (Table 3.7). -/
def execBltu (t : Thread) (f : FmtB) (pred : Bool) (s : State) : Next := .next (condBranch t .ltu f pred s)

/-- BGEU (Table 3.7). -/
def execBgeu (t : Thread) (f : FmtB) (pred : Bool) (s : State) : Next := .next (condBranch t .geu f pred s)

/-- BPOI (Table 3.7). -/
def execBpoi (t : Thread) (f : FmtB) (pred : Bool) (s : State) : Next := .next (condBranch t .poi f pred s)

/-- BEMP (Table 3.7). -/
def execBemp (t : Thread) (f : FmtB) (pred : Bool) (s : State) : Next := .next (condBranch t .emp f pred s)

/-- JAL. -/
def execJal (t : Thread) (f : FmtJ) (s : State) : Next := .next (jumpLink t f s)

/-- JALR. -/
def execJalr (t : Thread) (f : FmtI) (s : State) : Next := .next (jumpLinkReg t f s)

end Sys2Proof.Machine
end

