-- ==== Sys2Proof/Machine/Translate.lean ====
section
/-! DEFINITION. Window translation, width modes, byte orders, marks and blocks (R36 to R43, R195, R220 to R228). -/

namespace Sys2Proof.Machine

/-! ### Ranges -/

/-- The MXL bytes a window covers (Table 9.2). -/
def Win.extent (w : Win) : Nat := if w.width = .pack4 then 2 ^ (w.size + 1) else 2 ^ (w.size + 3)

/-- Whether a byte range lies wholly within a window (R220). -/
def Win.covers (w : Win) (a n : Nat) : Bool := w.base ≤ a && a + n ≤ w.base + w.extent

/-- Whether a Parene word lies in a window's Parene range (R222). -/
def Win.holds (w : Win) (a : Nat) : Bool := w.pbase ≤ a && a < w.pbase + 2 ^ w.size

/-- The inbound window that covers a byte range (R220). -/
def State.lookup (s : State) (a n : Nat) : Option (Nat × Win) :=
  s.windows.find? fun w => w.2.dir = .inbound && w.2.covers a n

/-- The numbers of the MXL words that a byte range touches. -/
def spanned (a n : Nat) : List Nat :=
  if n = 0 then [] else (List.range ((a + n - 1) / 8 - a / 8 + 1)).map fun i => a / 8 + i

/-- Whether a write's byte enables suit the window (R38, R221). -/
def Win.writable (w : Win) (a n : Nat) : Bool :=
  match w.width with
  | .pack4 => a % 2 == 0 && n % 2 == 0
  | .narrow => a % 8 == 0 && 1 ≤ (a + n - 1) % 8
  | .wide18 => a % 8 == 0 && 2 ≤ (a + n - 1) % 8

/-- The 16-bit unit of a PACK4 word that holds Parene word `i` of its four (Table 2.8). -/
def Win.unit (w : Win) (i : Nat) : Nat := if w.order = .rev16 then i else 3 - i

/-- The first MXL byte of a Parene word, and how many bytes it takes (Table 9.2). -/
def Win.location (w : Win) (a : Nat) : Nat × Nat :=
  if w.width = .pack4 then (w.base + 8 * ((a - w.pbase) / 4) + 2 * w.unit ((a - w.pbase) % 4), 2)
  else (w.base + 8 * (a - w.pbase), 8)

/-- The Parene words of MXL word number `k` of the address space that a byte range touches, ascending (R224). -/
def Win.wordsOf (w : Win) (a n k : Nat) : List Nat :=
  let j := k - w.base / 8
  if w.width = .pack4 then
    ((List.range 4).map fun i => w.pbase + 4 * j + i).filter fun p =>
      let l := (w.location p).1
      l < a + n && a < l + 2
  else [w.pbase + j]

/-! ### Blocks -/

/-- A block from its first Parene word and beats: the bytes of the request's range that it carries (R169, R226). -/
def Win.block (w : Win) (a n start beats : Nat) : Block :=
  let locs := (List.range beats).map fun i => w.location (start + i)
  let lo := max a (locs.foldl (fun m l => min m l.1) (a + n))
  let hi := min (a + n) (locs.foldl (fun m l => max m (l.1 + l.2)) a)
  { start := start, beats := beats, off := lo - a, len := hi - lo }

/-- A run of consecutive Parene words cut into pieces of at most `size` words within aligned groups of 16 (R190). -/
def cutRun : Nat → Nat → Nat → Nat → List (Nat × Nat)
  | 0, _, _, _ => []
  | fuel + 1, size, start, n =>
    if n = 0 then []
    else
      let m := min n (min (max size 1) (16 - start % 16))
      (start, m) :: cutRun fuel size (start + m) (n - m)

/-- Whole MXL words of a PACK4 request run in blocks of this many Parene words; below 4 a word is cut into pieces. -/
def pack4Size (blkmax : Nat) (hold : Bool) : Nat := if hold && blkmax < 4 then 4 else 4 * (blkmax / 4)

/-- The runs of a PACK4 request: maximal runs of whole words, and each partial word on its own (R226); a run is a first
Parene word, a length, and whether it may be cut only between MXL words. -/
def packRuns : List (List Nat) → List (Nat × Nat × Bool)
  | [] => []
  | ws :: r =>
    let start := ws.headD 0
    if ws.length < 4 then (start, ws.length, false) :: packRuns r
    else
      match packRuns r with
      | (s', n', true) :: t => if s' = start + 4 then (start, n' + 4, true) :: t else (start, 4, true) :: (s', n', true) :: t
      | t => (start, 4, true) :: t

/-- The blocks of a request through an inbound window from Parene word `first` on (R195, R216, R226). -/
def Win.blocksFrom (w : Win) (blkmax a n first : Nat) : List Block :=
  let per := ((spanned a n).map fun k => (w.wordsOf a n k).filter fun p => first ≤ p).filter fun l => !l.isEmpty
  if w.io then per.flatten.map fun p => w.block a n p 1
  else if w.width = .pack4 then
    (packRuns per).flatMap fun r =>
      let size :=
        if r.2.2 then (if blkmax < 4 && !w.hold then 0 else pack4Size blkmax w.hold)
        else if w.hold then 4 else blkmax
      let pieces :=
        if size = 0 then
          (List.range (r.2.1 / 4)).flatMap fun i => cutRun 5 blkmax (r.1 + 4 * i) 4
        else cutRun 130 size r.1 r.2.1
      pieces.map fun p => w.block a n p.1 p.2
  else
    let ps := per.flatten
    (cutRun 40 blkmax (ps.headD 0) ps.length).map fun p => w.block a n p.1 p.2

/-- The blocks of a request through an inbound window (R195, R226). -/
def Win.blocks (w : Win) (blkmax a n : Nat) : List Block := w.blocksFrom blkmax a n 0

/-! ### Marks (R36, Table 2.9) -/

/-- The parity of a byte: whether it holds an odd number of ones. -/
def oddOnes (b : BitVec 8) : Bool := popCount b % 2 == 1

/-- The mark of a byte under a parity sense: `even` as MARK_SENSE. -/
def markOf (even : Bool) (b : BitVec 8) : Bool := if even then oddOnes b else !oddOnes b

/-- The marks M[17:16] of a data word (R36). -/
def marks (even : Bool) (d : BitVec 16) : BitVec 2 :=
  BitVec.ofBool (markOf even (d.extractLsb' 8 8)) ++ BitVec.ofBool (markOf even (d.extractLsb' 0 8))

/-- An 18-bit word with generated marks, or marks 0 under MARK_GEN = 1. -/
def withMarks (even gen0 : Bool) (d : BitVec 16) : BitVec 18 := (if gen0 then 0#2 else marks even d) ++ d

/-- Whether the marks of a word pass (R36). -/
def marksPass (even : Bool) (w : BitVec 18) : Bool :=
  w.extractLsb' 16 2 == marks even (w.extractLsb' 0 16)

/-! ### Placement (Table 2.7, R40, R41) -/

/-- The two bytes of a 16-bit unit exchanged. -/
def swapBytes (d : BitVec 16) : BitVec 16 := d.extractLsb' 0 8 ++ d.extractLsb' 8 8

/-- A unit under the window's byte order; it is its own inverse. -/
def Win.ordered (w : Win) (d : BitVec 16) : BitVec 16 := if w.order = .swap16 then swapBytes d else d

/-- The data bits that Parene word `a` gives to its MXL word. -/
def Win.placed (w : Win) (a : Nat) (x : BitVec 18) : Data :=
  let d := w.ordered (x.extractLsb' 0 16)
  match w.width with
  | .narrow => d.setWidth 64
  | .wide18 => (x.extractLsb' 16 2 ++ d).setWidth 64
  | .pack4 => d.setWidth 64 <<< (16 * w.unit ((a - w.pbase) % 4))

/-- The 18 bits that Parene word `a` takes from the data of its MXL word; marks as the port's fields say. -/
def Win.taken (w : Win) (even gen0 : Bool) (a : Nat) (d : Data) : BitVec 18 :=
  match w.width with
  | .narrow => withMarks even gen0 (w.ordered (d.extractLsb' 0 16))
  | .wide18 => d.extractLsb' 16 2 ++ w.ordered (d.extractLsb' 0 16)
  | .pack4 => withMarks even gen0 (w.ordered (d.extractLsb' (16 * w.unit ((a - w.pbase) % 4)) 16))

/-- The byte enables, within MXL word `k`, of the bytes from `lo` on, `n` long. -/
def byteMask (lo n k : Nat) : BitVec 8 :=
  (List.range 8).foldl (fun m i => if lo ≤ 8 * k + i && 8 * k + i < lo + n then setBit m i true else m) 0

/-- Data bits kept at enabled bytes, 0 elsewhere (R165, R224). -/
def keepBytes (be : BitVec 8) (d : Data) : Data := ofBytes fun i => if be.getLsbD i then byteOf d i else 0

/-- The mark fields of a port in force (Table 2.9): MARK_SENSE, MARK_CHECK, MARK_GEN. -/
def Pb.markSense (b : Pb) : Bool := forced b.inForce (key 2 0) == 1
/-- MARK_CHECK is 1: count only (R43). -/
def Pb.markCount (b : Pb) : Bool := forced b.inForce (key 2 1) == 1
/-- MARK_GEN is 1: drive 0. -/
def Pb.markZero (b : Pb) : Bool := forced b.inForce (key 2 2) == 1

/-- The words of the part of a read response that a block gives: the tag of R23, bytes outside the request as 0. -/
def Win.readWords (w : Win) (trust : BitVec 2) (a : Nat) (b : Block) (got : List (Nat × BitVec 18)) : List Word :=
  (spanned (a + b.off) b.len).map fun k =>
    let d := got.foldl (fun acc g => if (w.location g.1).1 / 8 = k then acc ||| w.placed g.1 g.2 else acc) (0 : Data)
    mkWord (mkTag (portOrigin w.port) trust true false) (keepBytes (byteMask (a + b.off) b.len k) d)

end Sys2Proof.Machine
end

