-- ==== Sys2Proof/Machine/Answer.lean ====
section
/-! DEFINITION. Packets queued for transmission, GRP packets, interrupts towards cards, and the answers of requests
(R106, R115, R168, R175, R180, R241, R243, R334, R337). -/

namespace Sys2Proof.Machine

/-! ### Transmit queues -/

/-- The virtual channel of a request kind (Table 7.3). -/
def rqVc : RqKind → Fin 4
  | .wrp => 0 | .int => 0 | .rd => 1 | .wrn => 1 | .flush => 1

/-- Whether a request kind has no response (Table 7.3). -/
def rqPosted : RqKind → Bool
  | .wrp => true | .int => true | _ => false

/-- Whether a request kind writes. -/
def rqWrites : RqKind → Bool
  | .wrp => true | .wrn => true | _ => false

/-- A packet queued on a virtual channel, for a thread where it is a thread's request (R102, R174). -/
def State.queueFor (s : State) (p : MxNo) (vc : Fin 4) (k : Pkt) (t : Option Thread) : State :=
  s.modMxt p fun m =>
    { m with ordNext := m.ordNext + 1, queues := vmod m.queues vc (· ++ [{ ord := m.ordNext, pkt := k, thr := t }]) }

/-- Whether VC0 of an MX port has room for one more packet (R55, R239; log 54): an empty queue has. -/
def State.vc0Room (s : State) (p : MxNo) : Bool :=
  s.mxt[p].queues[0].isEmpty || decide (s.mxt[p].queues[0].length ≤ Config.vc0Depth p)

/-- A packet that is no thread's request queued on a virtual channel. -/
def State.queuePkt (s : State) (p : MxNo) (vc : Fin 4) (k : Pkt) : State := s.queueFor p vc k none

/-- A header without the fields that the transmitter fills in: PSN and SRC (R164, R177, R182). -/
def plainHdr (tag : BitVec 10) (dst : BitVec 16) (len : Nat) : Hdr :=
  { tag := tag, psn := 0, src := 0, dst := dst, len := BitVec.ofNat 9 len, pair := false, retx := false, rsv := 0 }

/-- A request packet. -/
def plainReq (h : Hdr) (addr : Nat) (data : List Word) : ReqPkt :=
  { h := h, addr := BitVec.ofNat 48 addr, odom := 0, otoken := 0, wseq := 0, h2rsv := 0, data := data }

/-- The MX ports. -/
def allMx : List MxNo := [0, 1]

/-- The Parene ports. -/
def allPb : List PbNo := [0, 1, 2, 3]

/-- The group's members. -/
def allMembers : List (Fin 4) := [0, 1, 2, 3]

/-- The data words of a GRP body after the group header (Table 13.3). -/
def grpWords : GrpBody → Nat
  | .hello _ => 8 | .heartbeat _ => 1 | .propose _ => 1 | .ack => 0 | .commit _ => 1 | .tprobe .. => 3
  | .fwdreq k r => (if k = .wrn then 3 else 2) + r.data.length
  | .fwddata w => w.length
  | .fwdrsp _ _ _ _ w => 1 + w.length
  | .jrec _ _ _ _ _ w => 5 + w.length
  | .jrecx w => w.length
  | .jout .. => 1 | .jack .. => 1 | .leave => 0 | .reserved _ w => w.length

/-- The data words that a GRP body carries besides its own fields. -/
def GrpBody.dataWords : GrpBody → List Word
  | .fwdreq _ r => r.data
  | .fwddata l => l
  | .fwdrsp _ _ _ _ l => l
  | .jrec _ _ _ _ _ l => l
  | .jrecx l => l
  | _ => []

/-- The body with other data words in their place. -/
def GrpBody.withWords (l : List Word) : GrpBody → GrpBody
  | .fwdreq k r => .fwdreq k { r with data := l }
  | .fwddata _ => .fwddata l
  | .fwdrsp c o h n _ => .fwdrsp c o h n l
  | .jrec a b c d e _ => .jrec a b c d e l
  | .jrecx _ => .jrecx l
  | b => b

/-- A GRP packet of this member to a member, under an epoch (Table 13.2). -/
def State.grpPkt (s : State) (dst : Fin 4) (tag : BitVec 10) (epoch : BitVec 32) (b : GrpBody) : GrpPkt :=
  let g := s.group
  { h := plainHdr tag 0 (8 * (1 + grpWords b)), addr := g.gaddr + BitVec.ofNat 48 (64 * dst.val), odom := 0, otoken := 0,
    sender := g.index, dest := BitVec.ofNat 2 dst.val, epoch := epoch, body := b, dup := false }

/-- A GRP packet under an epoch sent on every MX port in link up (R337). -/
def State.sendGrpAt (s : State) (dst : Fin 4) (tag : BitVec 10) (epoch : BitVec 32) (b : GrpBody) : State :=
  allMx.foldl (fun s p => if s.mxt[p].up then s.queuePkt p 3 (.grp (s.grpPkt dst tag epoch b)) else s) s

/-- A GRP packet sent under the epoch of the installed view. -/
def State.sendGrp (s : State) (dst : Fin 4) (tag : BitVec 10) (b : GrpBody) : State := s.sendGrpAt dst tag s.group.epoch b

/-- The configured indices other than this member's own (R338). -/
def State.otherMembers (s : State) : List (Fin 4) :=
  allMembers.filter fun m => m.val ≤ s.group.n1.toNat && m.val != s.group.index.toNat

/-- A GRP packet sent to every other configured index. -/
def State.sendAll (s : State) (b : GrpBody) : State := s.otherMembers.foldl (fun s m => s.sendGrp m 0 b) s

/-! ### Levels driven to cards (R241, R243) -/

/-- Whether a port runs: enabled, the observation and the wait after its own reset pulse over, no external reset (R206 to
R208). -/
def Pb.running (b : Pb) : Bool := b.enabled && !b.disabling && b.phase == .normal && b.ext == .none

/-- Whether a port drives interrupt levels (R243): from the end of the observation on. -/
def Pb.drives (b : Pb) : Bool :=
  b.enabled && !b.disabling && (b.phase == .normal || b.phase == .observedWait) && b.ext == .none

/-- INT messages with SET on one level of a port (R241, R243). -/
def Pb.interrupt (b : Pb) (level : Nat) (set : Bool) : Pb :=
  if b.drives then
    if set then
      if b.irqDrive.getLsbD level then { b with cnt := bump 23 b.cnt }
      else { b with irqDrive := setBit b.irqDrive level true,
                    pins := { b.pins with irqLow := setBit b.pins.irqLow level true } }
    else { b with irqDrive := setBit b.irqDrive level false, irqRec := setBit b.irqRec level false,
                  pins := { b.pins with irqLow := setBit b.pins.irqLow level false } }
  else if set then
    if b.irqRec.getLsbD level then { b with cnt := bump 23 b.cnt } else { b with irqRec := setBit b.irqRec level true }
  else { b with irqRec := setBit b.irqRec level false }

/-- This member's index as a member number. -/
def State.self (s : State) : Fin 4 := Fin.ofNat 4 s.group.index.toNat

/-- The steward of a group port (R335). -/
def State.stewardOf (s : State) (n : PbNo) : Option (Fin 4) :=
  s.group.stewards[n].map fun i => Fin.ofNat 4 i.toNat

/-- A route's port, level and direction from its key. -/
def routeKey (n : PbNo) (level dir : Nat) : Nat := 16 * n.val + 2 * level + dir

/-- The DIR = 1 route whose address an INT names, with its port and level (R180). -/
def State.routeFor (s : State) (addr : BitVec 48) : Option (PbNo × Nat × Route) :=
  (s.routes.find? fun r => r.1 % 2 = 1 && r.2.addr = addr).map fun r => (Fin.ofNat 4 (r.1 / 16), r.1 / 2 % 8, r.2)

/-- An INT processed (R180, R241, R348): its level driven or recorded, forwarded to the steward, or unrouted. -/
def State.processInt (s : State) (p : MxNo) (k : ReqPkt) : State :=
  match s.routeFor k.addr with
  | none => s.bumpMxt p 8
  | some (n, level, _) =>
    let set := (dataOf (k.data.headD 0)).getLsbD 13
    if !s.group.joined then s.modPb n fun b => b.interrupt level set
    else match s.stewardOf n with
      | none => s.bumpMxt p 8
      | some m => if m = s.self then s.modPb n fun b => b.interrupt level set else s.sendGrp m 0 (.fwdreq .int k)

/-! ### Requests at the device as target -/

/-- The flushes and INTs of a port after work `id` has completed. -/
def Mxt.completed (m : Mxt) (id : Nat) : Mxt :=
  { m with ins := m.ins.filter fun i => i.id != id,
           flushes := m.flushes.map fun f => { f with before := f.before.filter fun b => b != id } }

/-- The response of a flush (R168, R175). -/
def flushRsp (f : FlushWait) : Pkt :=
  .rsp { h := plainHdr f.tag f.src 0, code := 0, offset := 0, rsv1 := 0, hint := 0, rsv2 := 0, data := [] }

/-- The flushes and INTs of a port that wait for nothing more are answered and processed, oldest first (R175). -/
def State.releaseFlushes (p : MxNo) : Nat → State → State
  | 0, s => s
  | n + 1, s =>
    match takeFirst (fun f => f.before.isEmpty && f.wrp.isNone) s.mxt[p].flushes with
    | none => s
    | some (f, rest) =>
      let s := s.modMxt p fun m => { m with flushes := rest }
      let s := match f.int with
        | some k => s.processInt p k
        | none => s.queuePkt p 2 (flushRsp f)
      State.releaseFlushes p n (s.modMxt p fun m => m.completed f.id)

/-- Work of an MX port as target completed (R167, R175). -/
def State.completeIn (s : State) (p : MxNo) (id : Nat) : State :=
  let s := s.modMxt p fun m => m.completed id
  State.releaseFlushes p s.mxt[p].flushes.length s

/-! ### The sequencer's Eddy (R115, R53, R54, R117) -/

/-- The part that stands first in address order. -/
def firstPart (l : List Part) : Option Part := l.find? fun p => l.all fun q => p.off ≤ q.off

/-- The part that an access reports: the first with a code other than 0x0 in address order, and the first of all where there is none
(R53, R169). -/
def reported (l : List Part) : Option Part := (firstPart (l.filter fun p => p.code != 0)).or (firstPart l)

/-- The status word of an access from its parts: CODE and HINT of the part that it reports (R53, Table 7.6). -/
def partsStatus (l : List Part) : Word := ((reported l).map fun p => statusWord p.code p.hint).getD (statusWord 0 0)

/-- Whether an access has ended with a final code other than 0x0 (R115). -/
def partsFailed (l : List Part) : Bool := l.any fun p => p.code != 0

/-- The data of MXL word `k` that one part gives, its own bytes alone. -/
def Part.dataAt (addr k : Nat) (p : Part) : Data :=
  keepBytes (byteMask (addr + p.off) p.len k) (dataOf (p.words.getD (k - (addr + p.off) / 8) 0))

/-- The word number `k` that the parts of a read give (R54): failed when any part of it failed; several good parts merge
their tags (R25). -/
def partsWord (addr : Nat) (l : List Part) (k : Nat) : Word :=
  let here := l.filter fun p => byteMask (addr + p.off) p.len k != 0
  if here.isEmpty || here.any fun p => p.code != 0 then failedWord
  else
    let tags := here.map fun p => tagOf (p.words.getD (k - (addr + p.off) / 8) 0)
    mkWord (mergeTags tags) (here.foldl (fun d p => d ||| p.dataAt addr k) 0)

/-- The word that LDX writes to WD: the bytes of a sub-word access at bit 0, zero-extended. -/
def ldxWord (addr len : Nat) (l : List Part) : Word :=
  let w := partsWord addr l (addr / 8)
  mkWord (tagOf w) ((dataOf w >>> (8 * (addr % 8))) &&& (if len = 8 then BitVec.allOnes 64 else (1 <<< (8 * len)) - 1))

/-- The words of an XRDB written to the Reservoir (R117). -/
def State.writeBlock (s : State) (x : Ext) : State :=
  (List.range (x.len / 8)).foldl
    (fun s i => s.unitWrite (x.rdst / 8 + i) (partsWord x.addr x.parts (x.addr / 8 + i))) s

/-- One entry of the Eddy changed. -/
def State.modExt (s : State) (id : Nat) (f : Ext → Ext) : State :=
  { s with seq := { s.seq with ext := s.seq.ext.map fun x => if x.id = id then f x else x } }

/-- Entries whose access is performed and completed leave the Eddy. -/
def State.dropExt (s : State) : State :=
  { s with seq := { s.seq with ext := s.seq.ext.filter fun x => !(x.performed && x.completed) } }

/-- Words read from reorder storage (R27, R232): one with an uncorrectable error is poisoned. -/
def poisonBad (errs : Assoc MemErr) (l : List Word) : List Word :=
  l.zipIdx.map fun x => if aget x.2 errs = some .multi then mkWord (poisonTag (tagOf x.1)) (dataOf x.1) else x.1

/-- Whether reorder storage holds an uncorrectable error of some words. -/
def anyBad (errs : Assoc MemErr) (n : Nat) : Bool := (List.range n).any fun i => aget i errs = some .multi

/-- The errors of words read from reorder storage, counted for its bank (R27; log 99). -/
def State.countErrs (s : State) (l : Assoc MemErr) : State :=
  l.foldl (fun s e => match e.2 with
    | .single => { s with res := { s.res with ce := vmod s.res.ce Config.reorderBank (· + 1) } }
    | .multi => { s with res := { s.res with ue := vmod s.res.ue Config.reorderBank (· + 1) } }) s

/-- A part read from the Eddy's reorder storage; that of an access of the device's own windows turns 0x8 (R232; log 99). -/
def Part.read (own : Bool) (p : Part) : Part :=
  { p with code := if own && p.code = 0 && anyBad p.errs p.words.length then 8 else p.code, words := poisonBad p.errs p.words,
           errs := [] }

/-- An access performed: its data, read from reorder storage, then its status delivered (R27, R115, R117, R232). -/
def State.performExt (s : State) (x : Ext) : State :=
  let s := x.parts.foldl (fun s p => s.countErrs p.errs) s
  let x := { x with parts := x.parts.map (Part.read (x.route == 0)) }
  let s := match x.kind with
    | .ldx => s.deliverTo x.thread (x.id + 1) (ldxWord x.addr x.len x.parts)
    | .xrdb => s.writeBlock x
    | _ => s
  let s := s.deliverTo x.thread x.id (partsStatus x.parts)
  (s.modExt x.id fun y => { y with performed := true, completed := y.completed || !y.kind.stores || y.kind == .xrdb }).dropExt.checkStop
    x.thread

/-- The responses of a stream delivered as far as its order allows (R115). -/
def State.releaseStream (t : Thread) (route : BitVec 2) : Nat → State → State
  | 0, s => s
  | n + 1, s =>
    match s.seq.ext.find? fun x => x.thread = t && x.route = route && !x.performed with
    | some x => if x.ready then State.releaseStream t route n (s.performExt x) else s
    | none => s

/-- A part of an access answered (R115, R168); parts after its end are ignored. An access that ends with a code other than 0x0 is
delivered at once, whatever stands before it in its stream. -/
def State.extPart (s : State) (id : Nat) (p : Part) : State :=
  match s.seq.ext.find? fun x => x.id = id && !x.performed with
  | none => s
  | some x =>
    let x' := { x with parts := x.parts ++ [p] }
    let ready := x.len ≤ (x'.parts.map Part.len).foldl (· + ·) 0
    let s := s.modExt id fun _ => { x' with ready := ready }
    let s := if ready && partsFailed x'.parts then s.performExt { x' with ready := ready } else s
    (State.releaseStream x.thread x.route s.seq.ext.length s).wake

/-- A posted store accepted: its status is written (R55). -/
def State.acceptExt (s : State) (id : Nat) : State :=
  match s.seq.ext.find? fun x => x.id = id && !x.performed with
  | none => s
  | some x =>
    let s := s.deliverTo x.thread id (statusWord 0 0)
    let s := (s.modExt id fun y => { y with performed := true }).dropExt.checkStop x.thread
    State.releaseStream x.thread x.route s.seq.ext.length s

/-- An external store completed (R106). -/
def State.completeExt (s : State) (id : Nat) : State := (s.modExt id fun x => { x with completed := true }).dropExt

/-! ### Answers -/

/-- A part of a request answered to whoever sent it (R168, R185, R346); a posted write of an MX port has no response. -/
def State.answerPart (s : State) (r : Req) (p : Part) : State :=
  match r.org with
  | .mx n gen =>
    if rqPosted r.kind then s
    else if s.mxt[n].gen != gen || !s.mxt[n].up then s.bumpMxt n 10
    else s.queuePkt n 2 (.rsp { h := plainHdr r.tag r.src p.len, code := p.code, offset := BitVec.ofNat 8 p.off, rsv1 := 0,
                                hint := p.hint, rsv2 := 0, data := p.words })
  | .thread _ id => s.extPart id p
  | .peer m => s.sendGrp m r.tag (.fwdrsp p.code (BitVec.ofNat 8 p.off) p.hint (BitVec.ofNat 9 p.len) p.words)

/-- A request ended at this device: it is outstanding no longer (R106, R167, R175). -/
def State.endReq (s : State) (r : Req) : State :=
  match r.org with
  | .mx n _ => s.completeIn n r.id
  | .thread _ id => s.completeExt id
  | .peer _ => s

/-- The part that covers a whole request with one code. -/
def Req.wholePart (r : Req) (code : BitVec 4) (hint : BitVec 16) : Part :=
  { off := 0, len := r.len, code := code, hint := hint, words := [] }

/-- A request ended with one answer for all of it. -/
def State.refuse (s : State) (r : Req) (code : BitVec 4) (hint : BitVec 16) : State :=
  (s.answerPart r (r.wholePart code hint)).endReq r

end Sys2Proof.Machine
end

