-- ==== Sys2Proof/Machine/Oxbow.lean ====
section
/-! DEFINITION. The Oxbow journal: space, requester table, entries, outcomes, attention, mirroring (R263 to R278), and what a
failed write does to order domains and late-error status (R235, R246). -/

namespace Sys2Proof.Machine

/-! ### Fenced members and mirror peers -/

/-- The members of a mask. -/
def members (m : BitVec 4) : List (Fin 4) := allMembers.filter fun i => m.getLsbD i.val

/-- Whether a mask has quorum (R341): more than N/2, or exactly N/2 with the highest-ranked member and every HELLO heard. -/
def State.quorum (s : State) (m : BitVec 4) (top : Option (Fin 4)) (allHello : Bool) : Bool :=
  let n := s.group.n1.toNat + 1
  let k := popCount m
  n < 2 * k || (n == 2 * k && allHello && match top with
    | some t => m.getLsbD t.val
    | none => false)

/-- The configured members as a mask. -/
def State.configured (s : State) : BitVec 4 := BitVec.ofNat 4 (2 ^ (s.group.n1.toNat + 1) - 1)

/-- Whether a member has a Parene port, as this member knows from its HELLO (Table 13.3); before it, that it has (DESIGN CHOICE,
log 94). -/
def State.memberHasPort (s : State) (m : Fin 4) (n : PbNo) : Bool :=
  if m = s.self then s.hasPb n.val
  else match s.group.peers[m].hello with
    | some h => h.ports.getLsbD n.val
    | none => true

/-- The mask that a value of CANDn stands for (R335, R357): under a profile every configured member that has the port, and nobody
while the device is not joined, so that none is configured (DESIGN CHOICE, log 94). -/
def State.candOf (s : State) (n : PbNo) (f : Nat) : BitVec 4 :=
  if f = candAll then
    (if s.group.joined then allMembers.foldl (fun f m => if s.memberHasPort m n then f else setBit f m.val false) s.configured else 0)
  else BitVec.ofNat 4 f

/-- CANDn as it reads (Tables 13.3 and 13.9). -/
def State.candField (s : State) (n : PbNo) : BitVec 4 := s.candOf n (s.fld .group 0 (key 1 n.val))

/-- The candidates of a port (R335). -/
def State.candidates (s : State) (n : PbNo) : BitVec 4 := s.candField n &&& s.configured

/-- Whether the journal is on (R263). -/
def State.journalOn (s : State) : Bool := s.fld .oxbow 0 1 != 0

/-- Whether journalled writes are mirrored (R275). -/
def State.mirrorOn (s : State) : Bool := s.fld .oxbow 0 2 == 1

/-- The mirror peers of a port (R345). -/
def State.mirrorPeers (s : State) (n : PbNo) : BitVec 4 :=
  if s.mirrorOn && s.group.joined then s.group.view &&& s.candidates n &&& ~~~(1#4 <<< s.group.index.toNat) else 0

/-! ### Space and requesters -/

/-- The lines of an entry of `n` data words (R265). -/
def linesFor (n : Nat) : Nat := (5 + n + 7) / 8

/-- The lines of the region that no entry occupies and no waiting write holds reserved (R265). -/
def State.freeLines (s : State) : Nat :=
  s.fld .oxbow 0 1 * 16384 - (s.journal.entries.map fun e => linesFor e.words.length).foldl (· + ·) 0 -
    ((allPb.flatMap fun n => s.pb[n].waiting).map Waiting.lines).foldl (· + ·) 0

/-- Whether any entry is unretired, or anything is reserved for a write not yet recorded (R263). -/
def State.journalBusy (s : State) : Bool :=
  !s.journal.entries.isEmpty || allPb.any fun n => s.pb[n].waiting.any fun w => w.lines != 0

/-- Whether a request is a WRN with a WSEQ: one that MXL brought (Table 10.12). -/
def Req.hasWseq (r : Req) : Bool :=
  match r.org with
  | .thread .. => false
  | _ => r.kind == .wrn

/-- The requester of R245, R258 and R267. -/
def Req.who (r : Req) : Requester :=
  match r.org with
  | .thread t _ => .thr t
  | _ => .src r.src

/-- Whether a requester has an unretired entry, or a write with space reserved (R265). -/
def State.reqrBusy (s : State) (src : BitVec 16) : Bool :=
  s.journal.entries.any (fun e => e.who == .src src) ||
    allPb.any fun n => s.pb[n].waiting.any fun w => w.lines != 0 && w.req.who == .src src

/-- The requester table with a requester used most recently; a new one has no FLOOR (R273). -/
def touchReqr (src : BitVec 16) (l : List JReqr) : List JReqr :=
  match takeFirst (fun q => q.src = src) l with
  | some (q, r) => r ++ [q]
  | none => l ++ [{ src := src, floor := none }]

/-- A place made in a full requester table by the least recently used requester that has no unretired entry (R265). -/
def State.roomForReqr (s : State) (src : BitVec 16) : Option (List JReqr) :=
  let l := s.journal.reqrs
  if l.any (fun q => q.src = src) || l.length < 1024 then some l
  else (takeFirst (fun q => !s.reqrBusy q.src) l).map fun q => q.2

/-- WSEQ follows FLOOR (R271). -/
def wseqFollows (w floor : BitVec 32) : Bool := let d := (w - floor).toNat; 1 ≤ d && d ≤ 2 ^ 31 - 1

/-! ### Late errors and order domains -/

/-- A generation marked broken when it is still current; this is no use of the entry (R235, R245, R246). -/
def State.breakOrder (s : State) (r : Req) : State :=
  { s with orders := s.orders.map fun e =>
      if e.who = r.who && e.dom = r.odom && e.gen = r.gen && r.odom != 0 then { e with broken := true } else e }

/-- A late error counted and recorded (R235, Table 9.6). -/
def State.lateError (s : State) (r : Req) (word : Nat) (code : BitVec 4) : State :=
  s.modPb r.win.port fun b =>
    { b with cnt := bump 19 b.cnt, lateLast := code ++ BitVec.ofNat 8 r.wno ++ BitVec.ofNat 24 word }

/-! ### Outcomes -/

/-- The MXL code of a journal outcome (Table 10.4). -/
def joutCode (j : BitVec 4) : BitVec 4 :=
  match j.toNat with
  | 1 => 0 | 10 => 0 | 2 => 5 | 3 => 7 | _ => 6

/-- Whether an outcome poisons the entry (R269). -/
def joutPoisons (j : BitVec 4) : Bool := 5 ≤ j.toNat && j.toNat ≤ 9

/-- Whether an outcome says that the card has the write (Table 10.4). -/
def joutGood (j : BitVec 4) : Bool := j == 1 || j == 10

/-- The counter of an outcome (Table 10.9). -/
def joutCounter (j : BitVec 4) : Nat := if joutGood j then 7 else if joutPoisons j then 9 else 8

/-- An entry with its outcome (R269). -/
def JEntry.final (e : JEntry) (j : BitVec 4) : JEntry :=
  { e with state := .final, jout := j, answers := [],
           words := if joutPoisons j then e.words.map fun w => mkWord (poisonTag (tagOf w)) (dataOf w) else e.words }

/-- EH0 of an entry as JREC sends it, STATE and JOUT 0 (Table 10.12, Table 13.3). -/
def JEntry.eh0 (e : JEntry) : Data :=
  BitVec.ofNat 64 (e.jsn + 2 ^ 48 * e.port.val + (match e.who with
      | .thr _ => 2 ^ 50
      | .src _ => 0) + (if e.hasWseq then 2 ^ 51 else 0) + 2 ^ 52 * (e.words.length - 1))

/-- EH1 (Table 10.12). -/
def JEntry.eh1 (e : JEntry) : Data := BitVec.ofNat 64 (e.addr + 2 ^ 48 * e.len)

/-- EH2 (Table 10.12). -/
def JEntry.eh2 (e : JEntry) : Data :=
  BitVec.ofNat 64 ((match e.who with
    | .thr t => t.val
    | .src q => q.toNat) + 2 ^ 16 * e.window + 2 ^ 24 * e.pstart)

/-- EH3 (Table 10.12). -/
def JEntry.eh3 (e : JEntry) : Data := if e.hasWseq then e.wseq.setWidth 64 else 0

/-- The STATE and JOUT that EH0 holds in the Reservoir (Table 10.12). -/
def JEntry.stateBits (e : JEntry) : Data :=
  BitVec.ofNat 64 (2 ^ 57 * e.jout.toNat + 2 ^ 61 * (match e.state with
    | .recorded => 0
    | .running => 1
    | .final => 2))

/-- The words of an entry as the region holds them: the header words with constant tag, the data words with their own (R265,
R267). -/
def JEntry.image (e : JEntry) : List Word :=
  [constWord (e.eh0 ||| e.stateBits), constWord e.eh1, constWord e.eh2, constWord e.eh3, constWord e.trec] ++ e.words

/-- The Reservoir word of word `i` of an entry: 8 words in each of its lines, in the region that JBASE gives (R263, R265). -/
def State.entryWord (s : State) (e : JEntry) (i : Nat) : Nat :=
  2 ^ 17 * s.fld .oxbow 0 0 + 8 * e.lines.getD (i / 8) 0 + i % 8

/-- Words of an entry written, from word `i` on: journal writes (R267, Table 5.5); zeroised, nothing is written (R388). -/
def State.journalWrite (s : State) (e : JEntry) (l : List (Word × Nat)) : State :=
  if s.hcb.phase = .zeroised then s else l.foldl (fun s x => s.unitWrite (s.entryWord e x.2) x.1) s

/-- A whole entry written. -/
def State.writeEntry (s : State) (e : JEntry) : State := s.journalWrite e e.image.zipIdx

/-- STATE and JOUT of an entry written: EH0 (Table 10.12). -/
def State.writeHead (s : State) (e : JEntry) : State := s.journalWrite e (e.image.zipIdx.take 1)

/-- The whole entry read, with the corrections and counts of a journal read (R27, R268). -/
def State.readEntry (s : State) (e : JEntry) : State :=
  (List.range e.image.length).foldl (fun s i => s.unitRead (s.entryWord e i)) s

/-- Whether an entry cannot run: a word of it has an uncorrectable error (R268), or a data word is poisoned or empty (R24;
log 98). -/
def State.entryBad (s : State) (e : JEntry) : Bool :=
  ((List.range e.image.length).any fun i => s.res.isBad (s.entryWord e i)) || e.words.any fun w => !isGood w

/-- Lines that no entry occupies, `n` of them, the lowest from line `i` on. -/
def lowestFree (used : List Nat) : Nat → Nat → Nat → List Nat
  | 0, _, _ => []
  | fuel + 1, i, n =>
    if n = 0 then []
    else if used.contains i then lowestFree used fuel (i + 1) n
    else i :: lowestFree used fuel (i + 1) (n - 1)

/-- The lines that a new entry of `n` data words takes (R265; log 98: the lowest free ones). -/
def State.takeLines (s : State) (n : Nat) : List Nat :=
  let used := s.journal.entries.flatMap JEntry.lines
  lowestFree used (used.length + linesFor n) 0 (linesFor n)

/-- The journal's own entry of a port with a JSN. -/
def State.entry (s : State) (n : PbNo) (jsn : Nat) : Option JEntry :=
  s.journal.entries.find? fun e => e.port = n && e.jsn = jsn

/-- One entry changed. -/
def State.modEntry (s : State) (n : PbNo) (jsn : Nat) (f : JEntry → JEntry) : State :=
  { s with journal := { s.journal with
      entries := s.journal.entries.map fun e => if e.port = n && e.jsn = jsn then f e else e } }

/-- One entry changed, and STATE and JOUT in the region with it (R265). -/
def State.modState (s : State) (n : PbNo) (jsn : Nat) (f : JEntry → JEntry) : State :=
  let s := s.modEntry n jsn f
  ((s.entry n jsn).map s.writeHead).getD s

/-- An entry final: its outcome, and the poisoned data words where the outcome poisons them, written (R19, R269). -/
def State.finalEntry (s : State) (n : PbNo) (jsn : Nat) (j : BitVec 4) : State :=
  let s := s.modEntry n jsn fun e => e.final j
  ((s.entry n jsn).map fun e => if joutPoisons j then s.writeEntry e else s.writeHead e).getD s

/-- An attention record queued, or discarded and counted, and the JRNL event (R277). -/
def State.attend (s : State) (n : PbNo) (jsn : Nat) (j : BitVec 4) : State :=
  let s := if s.journal.attention.length < 64 then
      { s with journal := { s.journal with
          attention := s.journal.attention ++ [{ jsn := jsn, jout := j, port := n }] } }
    else s.bumpJ 13
  s.raiseEvent evJrnl

/-- An outcome sent to the mirror peers (R275). -/
def State.mirrorOutcome (s : State) (n : PbNo) (jsn : Nat) (j : BitVec 4) : State :=
  (members (s.mirrorPeers n)).foldl
    (fun s m => s.sendGrp m 0 (.jout (BitVec.ofNat 48 jsn) j (BitVec.ofNat 2 n.val))) s

/-- Whether every mirror peer has acknowledged an entry's outcome (R275); nobody acknowledges to a mirror peer. -/
def State.outAcked (s : State) (e : JEntry) : Bool := e.mirrored || s.mirrorPeers e.port &&& ~~~e.outAck == 0

/-- Whether an entry still holds up JSYNC and JDRAIN (R278). -/
def State.holdsSync (s : State) (n : PbNo) (jsn : Nat) : Bool :=
  match s.entry n jsn with
  | none => false
  | some e => e.state != .final || !s.outAcked e

/-- How many of the entries a wait names are not yet final (Table 10.5). -/
def State.notFinal (s : State) (w : JWait) : Nat :=
  (w.jsns.filter fun j => match s.entry w.port j with
    | none => false
    | some e => e.state != .final).length

/-- A wait of JSYNC or JDRAIN ended: the operation's result stands (R278). -/
def State.endWait (s : State) (w : JWait) : State :=
  { s with seq := { s.seq with
      jwaits := s.seq.jwaits.filter fun x => x.id != w.id,
      ops := s.seq.ops.map fun o =>
        if o.id = w.id then { o with results := [constWord (BitVec.ofNat 64 (s.notFinal w))] } else o } }

/-- The waits that the journal's present state ends (R278). -/
def State.endWaits (s : State) : State :=
  s.seq.jwaits.foldl (fun s w => if w.jsns.any fun j => s.holdsSync w.port j then s else s.endWait w) s

/-- The requester of a journalled write whose entry has become final: answered unless it was early, a late error
otherwise (R118, R235, R269). -/
def State.settle (s : State) (job : Job) (word : Nat) (j : BitVec 4) : State :=
  let s := if joutGood j then s else s.breakOrder job.req
  if job.answered then (if joutGood j then s else s.lateError job.req word (joutCode j)).endReq job.req
  else s.refuse job.req (joutCode j) 0

/-- An entry becomes final with an outcome: counters, attention, the answers that wait for it, its mirrors (R269, R271,
R275, R277). `word` is the Parene word that LATELAST names. -/
def State.finalise (s : State) (n : PbNo) (jsn : Nat) (j : BitVec 4) (word : Nat) : State :=
  match s.entry n jsn with
  | none => s
  | some e =>
    if e.state = .final then s
    else
      let jobs := s.pb[n].jobs.filter fun b => b.jsn = some jsn
      let s := s.finalEntry n jsn j
      let s := s.modPb n fun b => { b with jobs := b.jobs.filter fun b => b.jsn != some jsn }
      let s := s.bumpJ (joutCounter j)
      let s := if joutGood j then s else s.attend n jsn j
      let s := jobs.foldl (fun s b => s.settle b word j) s
      let s := e.answers.foldl (fun s r => s.refuse r (joutCode j) 0) s
      (s.mirrorOutcome n jsn j).endWaits

/-- An entry final without having run: LATELAST names its first word (R235). -/
def State.finaliseAtStart (s : State) (n : PbNo) (jsn : Nat) (j : BitVec 4) : State :=
  s.finalise n jsn j (((s.entry n jsn).map JEntry.pstart).getD 0)

/-- Entries of a port that satisfy `p`, by JSN. -/
def State.jsnsOf (s : State) (n : PbNo) (p : JEntry → Bool) : List Nat :=
  (s.journal.entries.filter fun e => e.port = n && p e).map JEntry.jsn

/-! ### Recording (R266, R267) -/

/-- A record sent to some members, the words beyond 26 in JRECX (R275, Table 13.3). -/
def State.mirrorRecord? (s : State) (e : JEntry) (dst : BitVec 4) : State :=
  (members dst).foldl
    (fun s m =>
      let s := s.sendGrp m 0 (.jrec e.eh0 e.eh1 e.eh2 e.eh3 e.trec (e.words.take 26))
      if e.words.length ≤ 26 then s else s.sendGrp m 0 (.jrecx (e.words.drop 26))) s

/-- A record sent to the mirror peers. -/
def State.mirrorRecord (s : State) (e : JEntry) : State := s.mirrorRecord? e (s.mirrorPeers e.port)

/-- The entry of a journalled write (R267). -/
def State.newEntry (s : State) (n : PbNo) (r : Req) : JEntry :=
  { jsn := s.pb[n].jsn, port := n, mirrored := false, who := r.who, hasWseq := r.hasWseq,
    wseq := if r.hasWseq then r.wseq else 0, addr := r.addr, len := r.len, window := r.wno,
    pstart := ((spanned r.addr r.len).flatMap (r.win.wordsOf r.addr r.len)).headD 0, trec := s.time.now, words := r.words,
    state := .recorded, jout := 0, answers := [], recAck := 0, outAck := 0, lines := s.takeLines r.words.length }

/-- A write recorded: the entry and its words in the region, the next JSN, the count, the records for the mirrors (R266, R267). -/
def State.record (s : State) (n : PbNo) (r : Req) : State :=
  let e := s.newEntry n r
  let s := s.modPb n fun b => { b with jsn := (b.jsn + 1) % 2 ^ 48 }
  let s := { s with journal := { s.journal with entries := s.journal.entries ++ [e] } }
  ((s.writeEntry e).bumpJ 6).mirrorRecord e

/-- Whether the gate of R275 lets an entry start. -/
def State.gateOpen (s : State) (n : PbNo) (jsn : Nat) : Bool :=
  match s.entry n jsn with
  | none => true
  | some e =>
    s.mirrorPeers n &&& ~~~e.recAck == 0 &&
      (s.journal.entries.all fun x => !(x.port = n && x.state == .final && x.jsn < jsn) || s.outAcked x)

/-! ### Retirement -/

/-- FLOOR after an entry with a WSEQ has retired (R273). -/
def JReqr.retire (w : BitVec 32) (q : JReqr) : JReqr :=
  { q with floor := some (match q.floor with
      | none => w
      | some f => if wseqFollows w f then w else f) }

/-- ENTRY_RETIRE: a final entry, acknowledged by every mirror peer, retires (R273). -/
def retireEntry (n : PbNo) (jsn : Nat) (s : State) : State :=
  match s.entry n jsn with
  | none => s
  | some e =>
    if e.state != .final || !s.outAcked e then s
    else
      let j := s.journal
      let reqrs := match e.who with
        | .src q => if e.hasWseq then
            j.reqrs.map fun x => if x.src = q then x.retire e.wseq else x else j.reqrs
        | .thr _ => j.reqrs
      { s with journal := { j with reqrs := reqrs,
                                   entries := j.entries.filter fun x => !(x.port = n && x.jsn = jsn) } }

/-- AGEMAX_EXPIRE: a RECORDED entry of this member's port is poisoned with JOUT 5 (R272). -/
def ageEntry (n : PbNo) (jsn : Nat) (s : State) : State :=
  match s.entry n jsn with
  | none => s
  | some e => if e.state = .recorded && !e.mirrored then s.finaliseAtStart n jsn 5 else s

/-- MIRROR_TIMEOUT: a peer that has not acknowledged the record or the outcome is reported to the group (R275). -/
def mirrorTimeout (n : PbNo) (jsn : Nat) (s : State) : State :=
  match s.entry n jsn with
  | none => s
  | some e =>
    if e.mirrored then s
    else if (s.mirrorPeers n &&& ~~~e.recAck) != 0 || (e.state == .final && !s.outAcked e) then s.raiseEvent evGroup
    else s

/-- AGEMAX_EXPIRE. -/
def execAgemaxExpire (n : PbNo) (jsn : BitVec 48) (s : State) : Host.Outcome State Fault Refusal :=
  .next (ageEntry n jsn.toNat s)

/-- ENTRY_RETIRE. -/
def execEntryRetire (n : PbNo) (jsn : BitVec 48) (s : State) : Host.Outcome State Fault Refusal :=
  .next (retireEntry n jsn.toNat s)

/-- MIRROR_TIMEOUT. -/
def execMirrorTimeout (n : PbNo) (jsn : BitVec 48) (s : State) : Host.Outcome State Fault Refusal :=
  .next (mirrorTimeout n jsn.toNat s)

end Sys2Proof.Machine
end

