-- ==== Sys2Proof/Machine/Stages.lean ====
section
/-! DEFINITION. The stages of Table 1.3 from Levee to the journal: R15, R17, R220, R244 to R246, R251 to R262, R343, R346,
R350, R363 to R369. -/

namespace Sys2Proof.Machine

/-! ### Levee (R363 to R369) -/

/-- What a source rule grants (Table 14.5). -/
structure Grant where
  trust : BitVec 2
  read : Bool
  write : Bool
  keep : Bool

/-- A LEVEE field (Table 14.12). -/
def State.lev (s : State) (k : Nat) : Nat := s.fld .levee 0 k

/-- The rule for a source arriving on an MX port, or on either for a forwarded request; `none` denies (R365, R369). -/
def State.grant (s : State) (p : Option MxNo) (src : BitVec 16) : Option Grant :=
  let hit := s.rules.find? fun r =>
    r.2.srcLo.toNat ≤ src.toNat && src.toNat ≤ r.2.srcHi.toNat &&
      (match p with
        | some 0 => r.2.onMx0
        | some _ => r.2.onMx1
        | none => true)
  match hit with
  | some r => some { trust := r.2.trust, read := r.2.read, write := r.2.write, keep := r.2.keepOrigin }
  | none =>
    if s.lev 0 = 1 then none
    else some { trust := BitVec.ofNat 2 (s.lev 1), read := (s.lev 2).testBit 0, write := (s.lev 2).testBit 1, keep := false }

/-- Whether a received word's ORIGIN is reserved (R22). -/
def reservedOrigin (w : Word) : Bool := 10 ≤ (tagOrigin (tagOf w)).toNat && (tagOrigin (tagOf w)).toNat ≤ 14

/-- A received word with a reserved ORIGIN made unknown (R22). -/
def fixOrigin (w : Word) : Word := if reservedOrigin w then mkWord (withOrigin (tagOf w) 15) (dataOf w) else w

/-- The words of a packet after R22, and ORIGINFIX counted once for each word changed. -/
def State.fixOrigins (s : State) (l : List Word) : State × List Word :=
  (l.foldl (fun s w => if reservedOrigin w then s.bumpLev 12 else s) s, l.map fixOrigin)

/-- A word as Levee delivers it from an MX port (Table 14.4). -/
def Grant.word (g : Grant) (p : MxNo) (w : Word) : Word :=
  let t := if g.keep then tagOf w else withOrigin (tagOf w) (mxOrigin p)
  mkWord (capTrust t g.trust) (dataOf w)

/-- The lower of two trust classes. -/
def minTrust (a b : BitVec 2) : BitVec 2 := if a.toNat ≤ b.toNat then a else b

/-- The trust class of a word that enters through a Parene port by a window: the lower of the window's and PBCAP (R23, Table
14.4). -/
def State.pbTrust (s : State) (w : Win) : BitVec 2 := minTrust w.trust (BitVec.ofNat 2 (s.lev (key 1 (4 + w.port.val))))

/-- What stage 2 decides: the counter of its refusal, or the request's trust class and words. -/
inductive LevOut
  | deny (counter : Nat)
  | pass (trust : BitVec 2) (words : List Word)
deriving DecidableEq, Repr

/-- R365 on words that R22 has passed. For a forwarded request every word keeps its tag (R369). -/
def State.levCheck (s : State) (p : Option MxNo) (kind : RqKind) (src : BitVec 16) (l : List Word) : LevOut :=
  match s.grant p src with
  | none => .deny 5
  | some g =>
    if (kind == .flush && !g.read && !g.write) || (kind == .rd && !g.read) ||
        ((rqWrites kind || kind == .int) && !g.write) then .deny 6
    else if l.any fun w => !isGood w then .deny 8
    else
      let trust := l.foldl (fun t w => minTrust t (minTrust (tagTrust (tagOf w)) g.trust)) g.trust
      if rqWrites kind && trust.toNat < s.lev 3 then .deny 7
      else .pass trust (match p with
        | some q => l.map (g.word q)
        | none => l)

/-- R366: a route 00 access. -/
def State.levOwn (s : State) (kind : RqKind) (l : List Word) : LevOut :=
  if !rqWrites kind then .pass 3 l
  else if l.any fun w => !isGood w then .deny 8
  else
    let trust := l.foldl (fun t w => minTrust t (tagTrust (tagOf w))) 3
    if trust.toNat < s.lev 3 then .deny 7 else .pass trust l

/-- A condition of the evaluated configuration that has failed (R391). -/
def State.leftEval (s : State) (bit : Nat) : State :=
  { s with sec := { s.sec with leftEval := setBit s.sec.leftEval bit true } }

/-- Data words that Levee has admitted from a port whose receive encryption is off (R390, Table 14.10). -/
def State.admittedClear (s : State) (p : MxNo) (l : List Word) : State :=
  if l.isEmpty || s.mxt[p].encRx then s else s.leftEval (3 + p.val)

/-! ### Group state (stage 4) -/

/-- What stage 4 decides for a request to a port. -/
inductive GroupOut
  | pass
  | fenced (hint : BitVec 16)
  | forward (m : Fin 4)
deriving DecidableEq, Repr

/-- The HINT of R350: whole microseconds to the planned end of step 4, at least 1. -/
def State.takeoverHint (s : State) (end_ : Nat) : BitVec 16 :=
  BitVec.ofNat 16 (min 65535 (max 1 ((end_ - s.plant + 999) / 1000)))

/-- Stage 4 (R343, R346, R350, R351). -/
def State.stage4 (s : State) (n : PbNo) (peer : Bool) : GroupOut :=
  if !s.group.joined then .pass
  else if s.group.fenced then .fenced 0
  else match s.group.takeover[n] with
    | some e => .fenced (s.takeoverHint e)
    | none => match s.stewardOf n with
      | none => .fenced 0
      | some m => if m = s.self then .pass else if peer then .fenced 0 else .forward m

/-- The tag under which a forwarded request is known to the steward. -/
def ridTag (rid : Nat) : BitVec 10 := BitVec.ofNat 10 rid

/-- A request as FWDREQ carries it (R346): H0 to H2 and at most 28 data words. -/
def Req.fwdPkt (r : Req) : ReqPkt :=
  { h := { tag := r.tag, psn := 0, src := r.src, dst := 0, len := BitVec.ofNat 9 r.len, pair := r.pair, retx := r.retx,
           rsv := 0 },
    addr := BitVec.ofNat 48 r.addr, odom := r.odom, otoken := r.gen ++ r.seq, wseq := r.wseq, h2rsv := 0,
    data := r.words.take 28 }

/-- A request forwarded to the steward (R346). -/
def State.forwardReq (s : State) (m : Fin 4) (r : Req) : State :=
  let s := s.sendGrp m (ridTag r.id) (.fwdreq r.kind r.fwdPkt)
  let s := if r.words.length ≤ 28 then s else s.sendGrp m (ridTag r.id) (.fwddata (r.words.drop 28))
  { s with group := { s.group with forwards := s.group.forwards ++ [{ rid := r.id, req := r, parts := [] }] } }

/-! ### Order tokens (stage 6) -/

/-- What stage 6 answers: pass, or 0xA counted for a port. -/
inductive OrdOut
  | pass
  | broken (port : PbNo)

/-- R246 on an entry that is there. -/
def OrdEntry.check (e : OrdEntry) (gen seq : Byte) (n : PbNo) : OrdEntry × OrdOut :=
  let ahead := (gen - e.gen).toNat
  if 1 ≤ ahead && ahead ≤ 127 then
    let e := { e with gen := gen, port := n, next := 1, broken := false }
    if seq != 0 then ({ e with broken := true }, .broken n) else (e, .pass)
  else if gen != e.gen then (e, .broken e.port)
  else if e.broken || e.port != n || seq != e.next then ({ e with broken := true }, .broken e.port)
  else ({ e with next := e.next + 1 }, .pass)

/-- A new entry, the least recently used one discarded when all 4,096 are in use (R245). -/
def State.newOrder (s : State) (e : OrdEntry) : State :=
  match s.orders with
  | [] => { s with orders := [e] }
  | old :: r =>
    if 4096 ≤ s.orders.length then { (s.bumpPb old.port 22) with orders := r ++ [e] }
    else { s with orders := s.orders ++ [e] }

/-- Stage 6 (R244 to R246): the entry is used, and the answer given. -/
def State.orderCheck (s : State) (r : Req) : State × OrdOut :=
  let n := r.win.port
  let own := match r.org with
    | .thread .. => true
    | _ => false
  if !own && r.win.odom != 0 && r.odom != r.win.odom then (s, .broken n)
  else if r.odom = 0 then (s, .pass)
  else match takeFirst (fun e => e.who = r.who && e.dom = r.odom) s.orders with
    | none =>
      if r.seq = 0 then
        (s.newOrder { who := r.who, dom := r.odom, gen := r.gen, next := 1, broken := false, port := n }, .pass)
      else (s, .broken n)
    | some (e, rest) =>
      let c := e.check r.gen r.seq n
      ({ s with orders := rest ++ [c.1] }, c.2)

/-! ### Jobs of a port (stages 7 and 8) -/

/-- The MXL code of a cycle outcome (Table 9.3). -/
def CycOutcome.code : CycOutcome → BitVec 4
  | .ok => 0 | .targetError => 5 | .parity => 7 | .timeout => 6

/-- The journal outcome of a cycle outcome (Table 10.4). -/
def CycOutcome.jout : CycOutcome → BitVec 4
  | .ok => 1 | .targetError => 2 | .parity => 3 | .timeout => 4

/-- Whether EWA lets a write through the window be answered early (Table 3.13, R118). -/
def Win.early (w : Win) : Bool := w.ewa == 2 || (w.ewa == 0 && !w.device)

/-- A write that has ended at stage 8 without a journal entry (R118, R227, R235, R246). -/
def State.endWrite (s : State) (b : Job) (o : CycOutcome) (word : Nat) : State :=
  let s := if o = .ok then s else s.breakOrder b.req
  if b.answered then (if o = .ok then s else s.lateError b.req word o.code).endReq b.req
  else s.refuse b.req o.code 0

/-- A job taken from its port. -/
def State.dropJob (s : State) (n : PbNo) (id : Nat) : State :=
  s.modPb n fun b => { b with jobs := b.jobs.filter fun j => j.req.id != id }

/-- The blocks of a read that are not run, answered with a code (R71, R208). -/
def State.answerBlocks (s : State) (r : Req) (l : List Block) (code : BitVec 4) : State :=
  l.foldl (fun s b => s.answerPart r { off := b.off, len := b.len, code := code, hint := 0, words := [] }) s

/-- A job ended with an outcome for all that is left of it (R71, R208, R227, R230); a readback that does not end OK gives JOUT 9
(R276). -/
def State.endJob (s : State) (n : PbNo) (b : Job) (o : CycOutcome) (word : Nat) : State :=
  match b.jsn with
  | some j => s.finalise n j (if b.verify then 9 else o.jout) word
  | none =>
    let s := s.dropJob n b.req.id
    if rqWrites b.req.kind then s.endWrite b o word
    else
      let s := s.answerBlocks b.req b.blocks o.code
      (if o = .ok then s else s.breakOrder b.req).endReq b.req

/-- The first Parene word of what is left of a job. -/
def Job.word (b : Job) : Nat := (b.blocks.head?.map Block.start).getD 0

/-- Jobs that reach stage 8 while SYSRST# is low end with TIMEOUT at once (R208). -/
def State.failJobs (n : PbNo) : Nat → State → State
  | 0, s => s
  | k + 1, s =>
    match s.pb[n].jobs with
    | [] => s
    | b :: _ =>
      if s.pb[n].ext = .low && (match b.jsn with
        | some j => s.gateOpen n j && !s.group.fenced
        | none => true) then State.failJobs n k (s.endJob n b .timeout b.word)
      else s

/-- A request that has passed stage 6 goes on to stages 7 and 8 (R225, R262, R267): recorded when its window journals
writes, answered early where R55 or R118 says so. -/
def State.startJob (s : State) (r : Req) : State :=
  let n := r.win.port
  let journalled := r.win.jrnl && rqWrites r.kind
  let jsn := s.pb[n].jsn
  let s := if journalled then s.record n r else s
  let early := r.kind == .wrn && r.win.early
  let s := if early then s.answerPart r (r.wholePart 0 0) else s
  let s := match r.org with
    | .thread _ id => if r.kind = RqKind.wrp then s.acceptExt id else s
    | _ => s
  let b : Job :=
    { req := r, blocks := r.win.blocks (s.fld .parene n.val 7) r.addr r.len, got := [], markBad := false, retries := 0,
      answered := early, jsn := if journalled then some jsn else none, verify := false, differs := false }
  let s := s.modPb n fun p => { p with jobs := p.jobs ++ [b] }
  let s := if journalled && !s.pb[n].enabled then s.finaliseAtStart n jsn 6 else s
  State.failJobs n s.pb[n].jobs.length s

/-! ### Weir (stage 5) -/

/-- The cost of a request in cycles (R254). -/
def State.cost (s : State) (r : Req) : Nat := (r.win.blocks (s.fld .parene r.win.port.val 7) r.addr r.len).length

/-- The bucket of a class; RATE 0xFFFF keeps it full (R255). -/
def WeirClass.avail (c : WeirClass) : Nat := if c.rate = 0xFFFF then 1000 * c.depth.toNat else c.bucket

/-- A bucket at a value, within its cap (R255). -/
def WeirClass.fill (c : WeirClass) (b : Nat) : WeirClass := { c with bucket := min b (1000 * c.depth.toNat) }

/-- The origin of a request for Weir (R252). -/
def Req.weirOrigin (r : Req) : BitVec 4 :=
  match r.org with
  | .mx p _ => mxOrigin p
  | .thread .. => 0
  | .peer _ => 9

/-- Whether a class matches (R252). -/
def WeirClass.hits (c : WeirClass) (r : Req) : Bool :=
  (c.anyOrigin || c.origin == r.weirOrigin) && c.minTrust.toNat ≤ r.trust.toNat

/-- The class numbers. -/
def allClasses : List (Fin 8) := [0, 1, 2, 3, 4, 5, 6, 7]

/-- The lowest-numbered defined class that matches (R252). -/
def State.classOf (s : State) (r : Req) : Option (Fin 8 × WeirClass) :=
  allClasses.findSome? fun c => match s.pb[r.win.port].classes[c] with
    | some k => if k.hits r then some (c, k) else none
    | none => none

/-- The quota hint (R257). -/
def WeirClass.hint (c : WeirClass) (cost : Nat) : BitVec 16 :=
  if c.rate = 0 then c.hintCap
  else BitVec.ofNat 16 (min c.hintCap.toNat (max 1 ((1000 * cost - c.avail + c.rate.toNat - 1) / c.rate.toNat)))

/-- A class changed. -/
def State.modClass (s : State) (n : PbNo) (c : Fin 8) (f : WeirClass → WeirClass) : State :=
  s.modPb n fun b => { b with classes := vmod b.classes c fun k => k.map f }

/-- A request ended at stage 5 with a code and a counter (R260, R261). -/
def State.weirEnd (s : State) (r : Req) (counter : Nat) (code : BitVec 4) (hint : BitVec 16) : State :=
  (s.bumpWeir r.win.port counter).refuse r code hint

/-- What the journal says of a retransmission (R271): the entry it repeats, a new write, or a refusal. -/
inductive RetxOut
  | found (e : JEntry)
  | bad
  | stale
  | fresh

/-- Check 1 of Table 10.2 (R271). -/
def State.retx (s : State) (r : Req) : RetxOut :=
  match s.journal.reqrs.find? fun q => q.src = r.src with
  | none => .fresh
  | some q =>
    match s.journal.entries.find? fun e =>
        e.port = r.win.port && e.who = .src r.src && e.hasWseq && e.wseq = r.wseq with
    | some e => if e.addr = r.addr && e.len = r.len then .found e else .bad
    | none => match q.floor with
      | none => .fresh
      | some f => if wseqFollows r.wseq f then .fresh else .stale

/-- The reservation of check 8 (R265): lines and, for a WRN, a place in the requester table; `none` when there is none. -/
def State.reserve (s : State) (r : Req) : Option (State × Nat × Bool) :=
  let n := linesFor r.words.length
  if s.pb[r.win.port].jclosed || s.freeLines < n then none
  else if !r.hasWseq then some (s, n, false)
  else (s.roomForReqr r.src).map fun l =>
    ({ s with journal := { s.journal with reqrs := touchReqr r.src l } }, n, !(l.any fun q => q.src = r.src))

/-- Check 9: the request waits to be served. -/
def State.pushWaiting (s : State) (r : Req) (c : Fin 8) (k : WeirClass) (took lines : Nat) (reserved : Bool) : State :=
  let s := s.modClass r.win.port c fun k => k.fill (k.avail - took)
  let w : Waiting :=
    { req := r, cls := c, prio := k.prio, hintCap := k.hintCap, took := took, lines := lines, reserved := reserved,
      arrived := s.plant }
  s.modPb r.win.port fun b => { b with waiting := b.waiting ++ [w] }

/-- Checks 2 to 9 of Table 10.2. -/
def State.weirChecks (s : State) (r : Req) : State :=
  let n := r.win.port
  let journalled := r.win.jrnl && rqWrites r.kind
  if r.pair || !s.pb[n].enabled then s.weirEnd r 23 3 0
  else match s.classOf r with
    | none => s.weirEnd r 15 3 0
    | some (c, k) =>
      let cost := s.cost r
      let base := 8 * c.val
      if k.deny then s.weirEnd r (base + 5) 3 0
      else if journalled && !s.journalOn then s.weirEnd r 23 3 0
      else if k.depth.toNat < cost then s.weirEnd r (base + 4) 2 0
      else if k.avail < 1000 * cost then
        if k.refuse then s.weirEnd r (base + 4) 2 (k.hint cost) else s.weirEnd r (base + 1) 1 (k.hint cost)
      else if journalled then
        match s.reserve r with
        | none => s.weirEnd r (base + 3) 1 (BitVec.ofNat 16 (s.fld .weir n.val 3))
        | some (s, lines, reserved) => s.pushWaiting r c k (1000 * cost) lines reserved
      else s.pushWaiting r c k (1000 * cost) 0 false

/-- Stage 5 (R256, R271). -/
def State.weir (s : State) (r : Req) : State :=
  if r.hasWseq && r.retx && r.win.jrnl then
    match s.retx r with
    | .found e =>
      let s := s.bumpJ 10
      if e.state = .final then s.refuse r (joutCode e.jout) 0
      else s.modEntry e.port e.jsn fun e => { e with answers := e.answers ++ [r] }
    | .bad => (s.bumpJ 12).refuse r 5 0
    | .stale => (s.bumpJ 11).refuse r 5 0
    | .fresh => s.weirChecks r
  else s.weirChecks r

/-- Stages 3 to 5 for a request that Levee has passed (R15, R220, R221). -/
def State.fromLookup (s : State) (r : Req) : State :=
  match s.lookup r.addr r.len with
  | none => s.refuse r 9 0
  | some (wno, w) =>
    if rqWrites r.kind && !w.writable r.addr r.len then s.refuse r 9 0
    else
      let r := { r with wno := wno, win := w }
      let peer := match r.org with
        | .peer _ => true
        | _ => false
      match s.stage4 w.port peer with
      | .fenced h => s.refuse r 4 h
      | .forward m => s.forwardReq m r
      | .pass => s.weir r

/-- A window that no request uses. -/
def Win.none : Win :=
  { base := 0, pbase := 0, size := 0, port := 0, io := false, width := .narrow, order := .none, trust := 0, device := false,
    ewa := 0, jrnl := false, hold := false, pairAtomic := false, dir := .inbound, mxport := 0, odom := 0 }

/-- Stage 2 answered: a refusal counted, or the request goes on with its trust class and words (R15). -/
def State.fromLevee (s : State) (r : Req) : LevOut → State
  | .deny k => (s.bumpLev k).refuse r 0xB 0
  | .pass t l => s.fromLookup { r with trust := t, words := l }

/-! ### Serving (R258 to R260) -/

/-- Effective priority (R258). -/
def State.effPrio (s : State) (n : PbNo) (w : Waiting) : Nat :=
  let age := s.fld .weir n.val 2
  if age = 0 then w.prio.toNat else min 7 (w.prio.toNat + (s.plant - w.arrived) / (1000 * age))

/-- The waiting requests that may be served: none behind an earlier one of its requester (R258). -/
def State.eligible (s : State) : List Waiting → List Requester → List Waiting
  | [], _ => []
  | w :: r, seen =>
    if seen.contains w.req.who then s.eligible r (w.req.who :: seen)
    else w :: s.eligible r (w.req.who :: seen)

/-- The waiting request to serve next (R258): highest effective priority, then first arrived. -/
def State.nextServed (s : State) (n : PbNo) : Option Waiting :=
  (s.eligible s.pb[n].waiting []).foldl
    (fun best w => match best with
      | none => some w
      | some b => if s.effPrio n b < s.effPrio n w then some w else some b) none

/-- Stages 6 and on for a request that Weir has served. -/
def State.served (s : State) (r : Req) : State :=
  match s.orderCheck r with
  | (s, .broken port) => (s.bumpPb port 21).refuse r 0xA 0
  | (s, .pass) => s.startJob r

/-- A waiting request leaves the list. -/
def State.dropWaiting (s : State) (n : PbNo) (id : Nat) : State :=
  s.modPb n fun b => { b with waiting := b.waiting.filter fun w => w.req.id != id }

/-- WEIR_SERVE (R258). -/
def weirServe (n : PbNo) (s : State) : State :=
  if !s.clocked || s.fld .weir n.val 0 ≤ s.pb[n].jobs.length then s
  else match s.nextServed n with
    | none => s
    | some w => ((s.dropWaiting n w.req.id).bumpWeir n (8 * w.cls.val)).served w.req

/-- What a waiting request took given back (R71, R255, R259). -/
def State.giveBack (s : State) (n : PbNo) (w : Waiting) : State :=
  let s := (s.dropWaiting n w.req.id).modClass n w.cls fun k => k.fill (k.avail + w.took)
  if w.reserved && !s.reqrBusy w.req.src then
    { s with journal := { s.journal with reqrs := s.journal.reqrs.filter fun q => q.src != w.req.src } }
  else s

/-- HOLDMAX_DEFER: the longest-waiting request of the port is answered DEFER (R259), unless a place is free for it. -/
def holdmaxDefer (n : PbNo) (s : State) : State :=
  if !s.clocked then s else
  match s.pb[n].waiting with
  | [] => s
  | w :: _ =>
    if s.pb[n].jobs.length < s.fld .weir n.val 0 && (s.nextServed n).map (fun v => v.req.id) = some w.req.id then
      weirServe n s
    else
    let hint := BitVec.ofNat 16 (min w.hintCap.toNat (s.fld .weir n.val 1))
    ((s.giveBack n w).bumpWeir n (8 * w.cls.val + 2)).refuse w.req 1 hint

/-- One class after a tick of the refill grid (R255). -/
def WeirClass.refill (c : WeirClass) : WeirClass :=
  if c.rate = 0xFFFF then c.fill (1000 * c.depth.toNat) else c.fill (c.bucket + c.rate.toNat)

/-- QUOTA_REFILL: one tick of the grid that every class of every port shares (R255). -/
def quotaRefill (s : State) : State :=
  if !s.clocked then s else
  { s with pb := s.pb.map fun b => { b with classes := b.classes.map fun c => c.map WeirClass.refill } }

/-- QUOTA_REFILL. -/
def execQuotaRefill (s : State) : Host.Outcome State Fault Refusal := .next (quotaRefill s)

/-- WEIR_SERVE. -/
def execWeirServe (n : PbNo) (s : State) : Host.Outcome State Fault Refusal := .next ((weirServe n s).wake)

/-- HOLDMAX_DEFER. -/
def execHoldmaxDefer (n : PbNo) (s : State) : Host.Outcome State Fault Refusal := .next ((holdmaxDefer n s).wake)

end Sys2Proof.Machine
end

