-- ==== Sys2Proof/Machine/External.lean ====
section
/-! DEFINITION. Requests that the device issues on MXL, and LDX, STX, XRDB and XWRB (Table 3.6, R52 to R55, R113, R115, R116,
R124, R167, R248). -/

namespace Sys2Proof.Machine

/-! ### Issue on an MX port -/

/-- A tag that is neither outstanding nor held back (R167). -/
def State.freeTag (s : State) (p : MxNo) : Option (BitVec 10) :=
  let m := s.mxt[p]
  ((List.range 1024).map (BitVec.ofNat 10)).find? fun t =>
    !(m.reqs.any fun r => r.tag = t) && !(m.heldTags.any fun h => h.1 = t && s.plant < h.2)

/-- A request packet of the device queued on an MX port; a non-posted one is outstanding from now on (R167, R170). -/
def State.sendReq (s : State) (p : MxNo) (owner : ReqOwner) (kind : RqKind) (tag : BitVec 10) (k : ReqPkt) (thr : Option Thread) :
    State :=
  let s := s.queueFor p (rqVc kind) (.rq kind { k with h := { k.h with tag := tag } }) thr
  if rqPosted kind then s
  else s.modMxt p fun m =>
    { m with reqs := m.reqs ++ [{ tag := tag, owner := owner, read := kind == .rd, addr := k.addr.toNat, len := k.h.len.toNat,
                                  parts := [] }] }

/-- A request issued under a free tag, for a thread where it is one's; a posted one does not keep its tag (R167). A WRN takes a free
value as its WSEQ (log 22). Nothing is issued when no tag is free. -/
def State.issueReq (s : State) (p : MxNo) (owner : ReqOwner) (kind : RqKind) (k : ReqPkt) (thr : Option Thread := none) : State :=
  match s.freeTag p with
  | none => s
  | some t =>
    if kind == .wrn then
      let d := s.draw
      d.2.sendReq p owner kind t { k with wseq := d.1.setWidth 32 } thr
    else s.sendReq p owner kind t k thr

/-! ### External accesses -/

/-- The bytes of one element by SIZE (Table 3.6). -/
def sizeBytes (z : BitVec 2) : Nat := 8 / 2 ^ z.toNat

/-- The bytes of an access. -/
def FmtX.bytes (k : ExtKind) (f : FmtX) : Nat :=
  match k with
  | .ldx => sizeBytes f.size
  | .stx => sizeBytes f.size
  | _ => 8 * (f.count1.toNat + 1)

/-- Whether a form is illegal (R46, R52). -/
def FmtX.illegal (k : ExtKind) (f : FmtX) : Bool :=
  f.zero != 0 || f.route == 3 ||
    (match k with
      | .ldx => f.posted || f.count1 != 0
      | .stx => f.count1 != 0
      | .xrdb => f.posted || f.size != 0
      | .xwrb => f.size != 0)

/-- The exception an access raises from its addresses, with the address that XINFO names (R52, R31, R32; log 23). -/
def State.extFault (s : State) (k : ExtKind) (f : FmtX) (ext own : Data) : Option (BitVec 6 × Data) :=
  let n := FmtX.bytes k f
  let block := k == .xrdb || k == .xwrb
  if ext.toNat % (if block then 8 else n) != 0 || 256 < ext.toNat % 256 + n then some (xAlign, ext)
  else if !block then none
  else if own.toNat % 8 != 0 then some (xAlign, own)
  else if resBytes < own.toNat + n then some (xRange, own)
  else if s.touchesExec own.toNat n then some (xDataAttr, own)
  else none

/-- The kind of the request behind an access. -/
def ExtKind.rq (k : ExtKind) (posted : Bool) : RqKind := if k.stores && k != .xrdb then (if posted then .wrp else .wrn) else .rd

/-- The words that a store writes, in the places of the words it spans. -/
def State.extWords (s : State) (k : ExtKind) (a n own : Nat) (wd : Word) : List Word :=
  match k with
  | .stx => [mkWord (tagOf wd) (dataOf wd <<< (8 * (a % 8)))]
  | .xwrb => (List.range (n / 8)).map fun i => s.res.deliver (own / 8 + i)
  | _ => []

/-- The source words of XWRB read by the unit (R27, R97). -/
def State.extReads (s : State) (k : ExtKind) (n own : Nat) : State :=
  if k = .xwrb then (List.range (n / 8)).foldl (fun s i => s.unitRead (own / 8 + i)) s else s

/-- Whether Eddy has room (R116), MXL a tag (R167), and VC0 room for a posted store (R55). -/
def State.extRoom (s : State) (t : Thread) (f : FmtX) : Bool :=
  let out := s.seq.ext.filter fun x => !x.performed
  (out.filter fun x => x.thread = t).length < 32 && out.length < 256 &&
    (f.route == 0 ||
      (let p : MxNo := if f.route = 1 then 0 else 1
       (s.freeTag p).isSome && (!f.posted || s.vc0Room p)))

/-- Whether an access over MXL is pair-atomic (R124). -/
def State.pairAtomic (s : State) (p : MxNo) (k : ExtKind) (f : FmtX) (a : Nat) : Bool :=
  (k == .xrdb || k == .xwrb) && f.count1 == 1 && a % 16 == 0 &&
    s.windows.any fun w => w.2.dir == .outbound && w.2.pairAtomic && w.2.mxport == p && w.2.covers a 16

/-- A posted write to an endpoint is outstanding until a flush behind it is answered (R106). -/
def State.notePosted (s : State) (t : Thread) (p : MxNo) (a : Nat) : State :=
  let rest := s.seq.postedOut.filter fun q =>
    !(q.thread = t && q.port = p && q.flush.isNone && Config.endpointOf p q.addr = Config.endpointOf p a)
  { s with seq := { s.seq with postedOut := rest ++ [{ thread := t, port := p, addr := a, flush := none }] } }

/-- An access entered into the Eddy (R115). -/
def State.pushExt (s : State) (x : Ext) : State := { s with seq := { s.seq with ext := s.seq.ext ++ [x] } }

/-- The SRC under which a member forwards its own threads' requests: the endpoint ID of its first port in link up (log 24). -/
def State.ownSrc (s : State) : BitVec 16 :=
  match allMx.find? fun p => s.mxt[p].up with
  | some p => s.mxt[p].epid
  | none => 0

/-- The domain and token of a route 00 access: the ODOM of the inbound window that covers it, and the thread's present
token, which then moves on (R244, R248). -/
def State.takeToken (s : State) (t : Thread) (a n : Nat) : State × Byte × Byte × Byte :=
  match s.lookup a n with
  | none => (s, 0, 0, 0)
  | some (_, w) =>
    if w.odom = 0 then (s, 0, 0, 0)
    else
      let g := (s.thr t).token w.odom
      (s.modThread t fun th => { th with otok := aset w.odom.toNat (g.1, g.2 + 1) th.otok }, w.odom, g.1, g.2)

/-- A route 00 access presented to the stages of Table 1.3. -/
def State.ownRequest (s : State) (t : Thread) (id : Nat) (kind : RqKind) (a n : Nat) (tok : Byte × Byte × Byte)
    (l : List Word) : State :=
  let r : Req :=
    { id := id, org := .thread t id, src := s.ownSrc, tag := 0, kind := kind, addr := a, len := n, pair := false,
      retx := false, odom := tok.1, gen := tok.2.1, seq := tok.2.2, wseq := 0, words := l, trust := 3, wno := 0,
      win := Win.none }
  s.fromLevee r (s.levOwn kind l)

/-- The request packet of a route 01 or 10 access. -/
def State.extPkt (s : State) (p : MxNo) (k : ExtKind) (f : FmtX) (a n : Nat) (l : List Word) : ReqPkt :=
  plainReq { plainHdr 0 0 n with pair := s.pairAtomic p k f a } a l

/-- An external access that starts: its registers wait, its source words are read, its request leaves by its route. The status of an
LDX is awaited after its data, so that it stands where WD and WB name one register; route 10 of a GX7202 queues its request at
the port that the device has not, which no link ever takes (DESIGN CHOICES, log 91). -/
def State.startExt (s : State) (t : Thread) (k : ExtKind) (f : FmtX) (a own : Nat) (wd : Word) : State :=
  let n := FmtX.bytes k f
  let id := s.nextId
  let s := s.fresh 2
  let l := s.extWords k a n own wd
  let s := s.extReads k n own
  let s := if k = .ldx then s.awaitReg t f.wd (id + 1) else s
  let s := s.awaitReg t f.wb id
  let kind := k.rq f.posted
  let x : Ext :=
    { id := id, thread := t, route := f.route, kind := k, posted := f.posted, addr := a, len := n, rdst := own, odom := 0,
      parts := [], ready := false, performed := false, completed := false }
  if f.route = 0 then
    let tok := s.takeToken t a n
    let s := tok.1.pushExt { x with odom := tok.2.1 }
    s.ownRequest t id kind a n tok.2 l
  else
    let p : MxNo := if f.route = 1 then 0 else 1
    let pkt := s.extPkt p k f a n l
    if f.posted then ((s.issueReq p (.ext id) kind pkt (some t)).deliverTo t id (statusWord 0 0)).notePosted t p a
    else (s.pushExt x).issueReq p (.ext id) kind pkt (some t)

/-- An external access at its commit (R52, R113, R114, R116, R451): it waits for room, for the thread's own entries that overlap
the Reservoir words it reads or writes, and for what an older unit has still to write there. WA[63:48] are ignored
(DESIGN CHOICE, log 91: Table 3.6 gives a 48-bit address). -/
def externalAt (t : Thread) (opc : BitVec 6) (k : ExtKind) (f : FmtX) (s : State) : Issued :=
  let wd := s.reg t f.wd
  let ext := dataOf (s.reg t f.wa)
  let own := if k == .xrdb || k == .xwrb then dataOf wd else 0
  if FmtX.illegal k f then .except xIllegal ((encX opc f).setWidth 64)
  else match s.extFault k f ext own with
    | some e => .except e.1 e.2
    | none =>
      let a := ext.toNat % 2 ^ 48
      let n := FmtX.bytes k f
      let block := k == .xrdb || k == .xwrb
      if block && s.overlaps t own.toNat n then .stall (s.drainRange t own.toNat n)
      else if (block && s.unitPending t own.toNat n) || !s.extRoom t f then .stall s
      else .done (s.startExt t k f a own.toNat wd)

/-- An external access. -/
def external (t : Thread) (opc : BitVec 6) (k : ExtKind) (f : FmtX) (s : State) : State :=
  s.issue t (encX opc f) (if k = .ldx then [f.wa] else [f.wa, f.wd]) true (externalAt t opc k f)

/-- LDX (Table 3.6). -/
def execLdx (t : Thread) (f : FmtX) (s : State) : Next := .next (external t 0x1C .ldx f s)

/-- STX (Table 3.6). -/
def execStx (t : Thread) (f : FmtX) (s : State) : Next := .next (external t 0x1D .stx f s)

/-- XRDB (Table 3.6). -/
def execXrdb (t : Thread) (f : FmtX) (s : State) : Next := .next (external t 0x1E .xrdb f s)

/-- XWRB (Table 3.6). -/
def execXwrb (t : Thread) (f : FmtX) (s : State) : Next := .next (external t 0x1F .xwrb f s)

end Sys2Proof.Machine
end

