-- ==== Sys2Proof/Machine/Card.lean ====
section
/-! DEFINITION. The port as target of card cycles: the access to MXL behind a cycle, delayed answers, early-acknowledged
writes and their flushes (R119 to R121, R124, R203, R204, R228, R229, R233, R234, R249, R368, R453). -/

namespace Sys2Proof.Machine

/-! ### The requests of a card cycle (R228) -/

/-- The MXL bytes of a Parene word of an outbound window (Table 9.2). -/
def Win.outBytes (w : Win) (a : Nat) : Nat × Nat := ((w.location a).1, if w.width = .wide18 then 8 else 2)

/-- The beats of a block that lie in the window, from the first on (R202). -/
def Win.beatsIn (w : Win) (a beats : Nat) : Nat := ((List.range beats).takeWhile fun i => w.holds (a + i)).length

/-- The span of some byte ranges. -/
def spanOf (l : List (Nat × Nat)) : Nat × Nat :=
  let lo := l.foldl (fun m x => min m x.1) (l.headD (0, 0)).1
  (lo, l.foldl (fun m x => max m (x.1 + x.2)) 0 - lo)

/-- The byte ranges of the requests of a card block, in ascending order (R228). -/
def Win.cardRanges (w : Win) (a n : Nat) : List (Nat × Nat) :=
  let locs := (List.range n).map fun i => w.outBytes (a + i)
  let all := spanOf locs
  if all.2 = (locs.map Prod.snd).foldl (· + ·) 0 then [all]
  else (spanned all.1 all.2).filterMap fun k =>
    let here := locs.filter fun l => l.1 / 8 = k
    if here.isEmpty then Option.none else some (spanOf here)

/-- The data word that card words write into MXL word `k`, with its tag (R23, R37, R40, R368). -/
def Win.cardWord (w : Win) (tag : Byte) (a : Nat) (data : List (BitVec 18)) (r : Nat × Nat) (k : Nat) : Word :=
  let d := data.zipIdx.foldl
    (fun acc x => if (w.outBytes (a + x.2)).1 / 8 = k then acc ||| w.placed (a + x.2) x.1 else acc) (0 : Data)
  mkWord tag (keepBytes (byteMask r.1 r.2 k) d)

/-- The tag of a word that a card writes through a window (R23, R368): TRUST is the lower of the window's and PBCAP. -/
def State.cardTag (s : State) (w : Win) : Byte :=
  mkTag (portOrigin w.port) (s.pbTrust w) true false

/-- Whether a card block is a pair (R124). -/
def Win.cardPair (w : Win) (a n : Nat) : Bool := w.pairAtomic && w.width == .pack4 && n == 8 && a % 8 == 0

/-- The requests of a card access (R228). -/
def State.cardReqs (s : State) (w : Win) (a n : Nat) (data : List (BitVec 18)) : List CardReq :=
  (w.cardRanges a n).map fun r =>
    { addr := r.1, len := r.2, pair := w.cardPair a n, issued := false, parts := [], done := false,
      words := if data.isEmpty then [] else (spanned r.1 r.2).map (w.cardWord (s.cardTag w) a data r) }

/-! ### Tokens (R249) -/

/-- A port's token for a domain. -/
def Pb.token (b : Pb) (d : Byte) : Byte × Byte := (aget d.toNat b.otok).getD (b.gen0, 0)

/-- GEN up by 1 and SEQ 0. -/
def Pb.nextGen (b : Pb) (d : Byte) : Pb := { b with otok := aset d.toNat ((b.token d).1 + 1, 0) b.otok }

/-- Every domain of a port starts a new generation: PORT ENABLE and the end of an external reset (R249). -/
def Pb.newGens (b : Pb) : Pb := 
  { b with gen0 := b.gen0 + 1, otok := b.otok.map fun x => (x.1, (x.2.1 + 1, (0 : Byte))) }

/-- SEQ up by 1. -/
def Pb.useToken (b : Pb) (d : Byte) : Pb :=
  if d = 0 then b else { b with otok := aset d.toNat ((b.token d).1, (b.token d).2 + 1) b.otok }

/-- A response other than 0x0 to a request of the domain's current generation starts a new one (R249). -/
def Pb.tokenAnswer (b : Pb) (d gen : Byte) (code : BitVec 4) : Pb :=
  if d != 0 && code != 0 && gen = (b.token d).1 then b.nextGen d else b

/-! ### Issue (R116, R119 to R121) -/

/-- The packet of a card request, with the domain's token in H1. -/
def State.cardPkt (s : State) (n : PbNo) (w : Win) (r : CardReq) : ReqPkt :=
  let t := s.pb[n].token w.odom
  { h := { plainHdr 0 0 r.len with pair := r.pair }, addr := BitVec.ofNat 48 r.addr, odom := w.odom,
    otoken := if w.odom = 0 then 0 else t.1 ++ t.2, wseq := 0, h2rsv := 0, data := r.words }

/-- The early-acknowledged writes that a flush of the windows `p` follows; one flush for each window that has some,
open or closed since (R17), to its latest write (R121). -/
def State.flushEwa (s : State) (n : PbNo) (p : Nat → Bool) : State :=
  (s.pb[n].ewaOut.map fun e => (e.wno, e.mxport)).eraseDups.foldl (fun s w =>
    let l := s.pb[n].ewaOut.filter fun e => e.wno = w.1 && e.mxport = w.2 && e.flush.isNone
    match l.getLast? with
    | none => s
    | some e =>
      if !p w.1 || (s.freeTag w.2).isNone then s
      else
        let id := s.nextId
        let s := (s.fresh 1).issueReq w.2 (.ewaFlush n id) .flush (plainReq (plainHdr 0 0 0) e.addr [])
        s.modPb n fun b =>
          { b with ewaOut := b.ewaOut.map fun x =>
              if x.wno = w.1 && x.mxport = w.2 && x.flush.isNone then { x with flush := some id } else x }) s

/-- Whether a request on an MX port is the port's own: a card's, or a flush of its early-acknowledged writes. -/
def ReqOwner.ofPb (n : PbNo) : ReqOwner → Bool
  | .card m _ _ _ _ => m = n
  | .ewaFlush m _ => m = n
  | _ => false

/-- The requests that the Eddy of a Parene port holds outstanding (R116). -/
def State.eddyOut (s : State) (n : PbNo) : Nat := ((allMx.flatMap fun p => s.mxt[p].reqs).filter fun q => q.owner.ofPb n).length

/-- Whether a read waits for an early-acknowledged write before it (R120). -/
def State.readHeld (s : State) (n : PbNo) (a : CardAccess) : Bool := !a.wr && s.pb[n].ewaOut.any fun e => e.id < a.id

/-- Whether the next request of an access may be issued: under a free tag (R167), a read after every earlier early-acknowledged write
has completed (R120), an early write while fewer than 16 are outstanding and VC0 has room (R119), any other with one of the 64 places of the
port's Eddy (R116). -/
def State.canIssue (s : State) (n : PbNo) (a : CardAccess) : Bool :=
  (s.freeTag a.win.mxport).isSome &&
    (if a.wr && a.win.early then decide (s.pb[n].ewaOut.length < 16) && s.vc0Room a.win.mxport
     else !s.readHeld n a && decide (s.eddyOut n < 64))

/-- One request of an access issued: posted and noted under early acknowledgement, non-posted otherwise (R119). -/
def State.issueCardReq (s : State) (n : PbNo) (a : CardAccess) (i : Nat) (r : CardReq) : State × CardReq :=
  let k := s.cardPkt n a.win r
  let gen := (s.pb[n].token a.win.odom).1
  let s := s.modPb n fun b => b.useToken a.win.odom
  if a.wr && a.win.early then
    let id := s.nextId
    let s := (s.fresh 1).issueReq a.win.mxport (.card n a.id i a.win.odom gen) .wrp k
    let s := s.modPb n fun b =>
      { b with ewaOut := b.ewaOut ++ [{ id := id, wno := a.wno, addr := r.addr, mxport := a.win.mxport, flush := none }] }
    (s, { r with issued := true, done := true })
  else
    (s.issueReq a.win.mxport (.card n a.id i a.win.odom gen) (if a.wr then .wrn else .rd) k, { r with issued := true })

/-- The requests of an access issued in order as far as they may be. -/
def State.issueCard (n : PbNo) (a : CardAccess) : Nat → List CardReq → State → State × List CardReq
  | _, [], s => (s, [])
  | i, r :: rest, s =>
    if r.issued then
      let q := State.issueCard n a (i + 1) rest s
      (q.1, r :: q.2)
    else if s.canIssue n a then
      let p := s.issueCardReq n a i r
      let q := State.issueCard n a (i + 1) rest p.1
      (q.1, p.2 :: q.2)
    else (s, r :: rest)

/-- The port's pending access pushed on, and the flushes that R121 wants. -/
def State.pushCard (s : State) (n : PbNo) : State :=
  let s := match s.pb[n].acc with
    | none => s
    | some a =>
      let q := State.issueCard n a 0 a.reqs s
      q.1.modPb n fun b => { b with acc := some { a with reqs := q.2 } }
  let readWaits := match s.pb[n].acc with
    | some a => s.readHeld n a && a.reqs.any fun r => !r.issued
    | none => false
  if readWaits || 16 ≤ s.pb[n].ewaOut.length then s.flushEwa n fun _ => true else s

/-! ### Answers to card beats (R203, R204, R229, R233) -/

/-- What a card beat is answered. -/
inductive BeatAns
  | wait
  | done (ad : Option (BitVec 18))
  | error
  | markErr
  | retry

/-- DIR changed (R205): OE# goes high before it and low after it. -/
def PbPins.setDir (p : PbPins) (d : Bool) : PbPins :=
  if p.dir = some d then { p with oe := some false }
  else { p with oe := some false, dir := some d, turn := [(true, p.dir.getD d), (true, d), (false, d)] }

/-- An answer driven on the lines of the port (Table 8.4, R204). -/
def Pb.drive (b : Pb) : BeatAns → Pb
  | .wait => b
  | .done none => { b with pins := { b.pins with ackLow := true } }
  | .done (some d) => { b with pins := { b.pins.setDir true with ackLow := true, ad := some d } }
  | .error => { b with pins := { b.pins with berrLow := true } }
  | .markErr => { b with pins := { b.pins with berrLow := true, rtyLow := true } }
  | .retry => { b with pins := { b.pins with rtyLow := true } }

/-- Whether the device drives a response line. -/
def PbPins.answering (p : PbPins) : Bool := p.ackLow || p.rtyLow || p.berrLow

/-- The first code other than 0x0 in address order among parts, or 0x0. -/
def partsCode (l : List Part) : BitVec 4 :=
  let bad := l.filter fun p => p.code != 0
  match bad.find? fun p => bad.all fun q => p.off ≤ q.off with
  | some p => p.code
  | none => 0

/-- Whether the parts of a request cover some of its bytes. -/
def partsCover (l : List Part) (off n : Nat) : Bool :=
  (List.range n).all fun i => l.any fun p => p.off ≤ off + i && off + i < p.off + p.len

/-- The answer of beat `i` of a read (R229, R233): waits until its own bytes have arrived, those of a pair until both its words have
(R124). -/
def CardAccess.readAns (a : CardAccess) (even gen0 : Bool) (i : Nat) : BeatAns :=
  let loc := a.win.outBytes (a.addr + i)
  match a.reqs.find? fun r => r.addr ≤ loc.1 && loc.1 < r.addr + r.len with
  | none => .wait
  | some r =>
    let off := loc.1 - r.addr
    if !partsCover r.parts off loc.2 || (r.pair && !r.done) then .wait
    else
      let here := (r.parts.filter fun p => p.off < off + loc.2 && off < p.off + p.len).map (Part.read false)
      let code := partsCode here
      if code = 1 then .retry
      else if code != 0 then .error
      else
        let w := partsWord r.addr here (loc.1 / 8)
        if isGood w then .done (some (a.win.taken even gen0 (a.addr + i) (dataOf w))) else .error

/-- The latent errors of the word that beat `i` of a read takes from reorder storage (R27). -/
def CardAccess.errsAt (a : CardAccess) (i : Nat) : Assoc MemErr :=
  let k := (a.win.outBytes (a.addr + i)).1 / 8
  a.reqs.flatMap fun r => r.parts.flatMap fun p => p.errs.filter fun e => e.1 + (r.addr + p.off) / 8 = k && e.1 < p.words.length

/-- The answer of the last beat of a write (R119, R229, R233). -/
def CardAccess.writeAns (a : CardAccess) : BeatAns :=
  if a.reqs.any fun r => !r.done then .wait
  else
    match (a.reqs.map fun r => partsCode r.parts).find? fun c => c != 0 with
    | none => .done none
    | some c => if c = 1 then .retry else .error

/-- The access forgotten once its result has been given for good: with the last beat, an ERROR or a DEFER. -/
def Pb.dropAcc (b : Pb) : Pb := { b with acc := none }

/-- The waiting beat of the claimed cycle in progress answered if its answer is ready. -/
def State.cardTry (s : State) (n : PbNo) : State :=
  let b := s.pb[n]
  match b.tgt, b.acc with
  | .data c, some a =>
    if !c.dsLow || b.pins.answering || (c.mode != .access && c.mode != .collect) then s
    else
      let ans := if a.wr then a.writeAns else a.readAns b.markSense b.markZero c.idx
      let last := a.wr || c.idx + 1 == a.win.beatsIn a.addr a.beats
      match ans with
      | .wait => s
      | .done _ =>
        (s.countErrs (if a.wr then [] else a.errsAt c.idx)).modPb n fun b =>
          let b := { (b.drive ans) with tgt := .data { c with idx := c.idx + 1 } }
          if last then b.dropAcc else b
      | _ => (s.countErrs (if a.wr then [] else a.errsAt c.idx)).modPb n fun b => (b.drive ans).dropAcc
  | _, _ => s

/-- The access, if the cycle in progress still takes its result. -/
def Pb.accInUse (b : Pb) : Option CardAccess :=
  match b.tgt with
  | .data c => if c.mode == .access || c.mode == .collect then b.acc else none
  | _ => none

/-- The last word of an access's beats in the window. -/
def CardAccess.last (a : CardAccess) : Nat := a.addr + a.win.beatsIn a.addr a.beats - 1

/-- A part of a card request of a domain and generation answered (R168, R229, R234, R249): the token moves on whether the
access is still held or not. -/
def State.cardPart (s : State) (n : PbNo) (id i : Nat) (dom gen : Byte) (p : Part) : State :=
  let s := s.modPb n fun b => b.tokenAnswer dom gen p.code
  match s.pb[n].acc with
  | none => s
  | some a =>
    if a.id != id then s
    else match a.reqs[i]? with
      | none => s
      | some r =>
        let r' := { r with parts := r.parts ++ [p] }
        let ended := !r.done && decide (r.len ≤ (r'.parts.map Part.len).foldl (· + ·) 0)
        let r' := { r' with done := r.done || ended }
        let s := s.modPb n fun b => { b with acc := some { a with reqs := a.reqs.set i r' } }
        let s : State := if p.code = 1 then
            s.modPb n fun b =>
              { b with deferHold := b.deferHold ++ [{ til := s.plant + 1000 * max 1 p.hint.toNat, space := a.space,
                                                      addr := a.addr, beats := a.beats, wr := a.wr, last := a.last }],
                       acc := b.accInUse }
          else s
        (s.cardTry n).pushCard n

/-- A flush of early-acknowledged writes ended, whatever its code: they are completed (R121). -/
def State.ewaFlushed (s : State) (n : PbNo) (id : Nat) : State :=
  let s := s.modPb n fun b => { b with ewaOut := b.ewaOut.filter fun e => e.flush != some id }
  (s.pushCard n).cardTry n

/-- EWA_FLUSH_TIMER: 1 us after the window's last early-acknowledged write (R121). -/
def ewaFlushTimer (n : PbNo) (wno : Byte) (s : State) : State := s.flushEwa n fun w => w == wno.toNat

/-! ### Card cycles (R190, R200 to R204, R209 to R214) -/

/-- Whether a port takes note of BR#, IRQ# and SYSRST# (R206, R208): in external reset only once SYSRST# has risen. -/
def Pb.listens (b : Pb) : Bool := (b.enabled || b.disabling) && b.phase != .off && b.ext != .low

/-- Whether a port observes its backplane: enabled, or on its way to high impedance, and not in external reset (R206, R208). -/
def Pb.observes (b : Pb) : Bool := b.listens && b.ext == .none

/-- The fields in force from a cycle boundary on (R216). -/
def State.latchPb (s : State) (n : PbNo) : State :=
  s.modPb n fun b => { b with inForce := s.subs[subIdx .parene n.val].fields }

/-- CARD_ADDRESS_STROBE: a card's first AS# fall (R190, R209, R211). -/
def cardAddressStrobe (n : PbNo) (ad : BitVec 18) (wr : Bool) (s : State) : State :=
  let b := s.pb[n]
  if !b.observes || b.cyc.isSome || b.tgt != .idle then s
  else
    let s := s.latchPb n
    let s :=
      if b.granted then
        s.modPb n fun b =>
          { b with granted := false, tenure := some 1, tenOver := false, pins := { b.pins with bg := some true } }
      else match b.tenure with
        | none => s
        | some k =>
          let tooLong := !b.tenOver && decide (s.fld .parene n.val (key 1 2) < k + 1)
          let s := s.modPb n fun b => { b with tenure := some (k + 1) }
          if tooLong then
            (s.bumpPb n 15).modPb n fun b => { b with tenOver := true, abortNext := s.fld .parene n.val (key 1 3) == 1 }
          else s
    s.modPb n fun b => { b with tgt := .first ad wr }

/-- The space code, beats and address bits of an address word (Table 8.3). -/
def awSpace (w : BitVec 18) : BitVec 2 := w.extractLsb' 16 2
/-- BEATS + 1. -/
def awBeats (w : BitVec 18) : Nat := (w.extractLsb' 12 4).toNat + 1
/-- A. -/
def awAddr (w : BitVec 18) : Nat := (w.extractLsb' 0 12).toNat

/-- Whether two address words make a cycle that is decoded (R34, R190). -/
def decodable (w1 w2 : BitVec 18) : Bool :=
  w1.extractLsb' 12 6 == w2.extractLsb' 12 6 && awSpace w1 != 3 && awAddr w2 % 16 + awBeats w1 ≤ 16 &&
    (awSpace w1 == 0 || awBeats w1 == 1)

/-- The outbound window that claims a card cycle (R35, R222). -/
def State.cardWin (s : State) (n : PbNo) (space : BitVec 2) (a : Nat) : Option (Nat × Win) :=
  if space = 2 || (space = 1 && 2 ^ 16 ≤ a) then none
  else s.windows.find? fun w => w.2.dir = .outbound && w.2.port = n && w.2.io = (space == 1) && w.2.holds a

/-- Whether a cycle repeats the block, or the last beat, of a held access (R203, R229). -/
def CardAccess.repeated (a : CardAccess) (space : BitVec 2) (addr beats : Nat) (wr : Bool) : Bool :=
  a.space == space && a.wr == wr && ((a.addr == addr && a.beats == beats) ||
    (wr && beats == 1 && addr == a.last))

/-- Whether a cycle repeats one that MXL has deferred, or the last beat of such a write block, before its hint has passed (R229,
R234). -/
def Pb.deferred (b : Pb) (space : BitVec 2) (addr beats : Nat) (wr : Bool) : Bool :=
  b.deferHold.any fun d => d.space == space && d.wr == wr &&
    ((d.addr == addr && d.beats == beats) || (wr && beats == 1 && addr == d.last))

/-- How a claimed cycle is treated (R203, R234). -/
def Pb.cardMode (b : Pb) (w : Win) (space : BitVec 2) (addr beats : Nat) (wr : Bool) : CardMode :=
  if b.deferred space addr beats wr then .retry false
  else match b.acc with
    | none => .access
    | some a =>
      if a.delayed && a.repeated space addr beats wr then .collect
      else if wr && w.early then .access
      else .retry true

/-- Whether stage 2 or 4 of Table 1.4 refuses a card cycle (R343, R368). -/
def State.cardDenied (s : State) (n : PbNo) (wr : Bool) : Bool :=
  let m := s.lev (key 1 (8 + n.val))
  m = 0 || (m = 1 && wr)

/-- The access of a card cycle. -/
def State.newAccess (s : State) (c : CardCycle) (wno : Nat) (w : Win) (data : List (BitVec 18)) : CardAccess :=
  let m := w.beatsIn c.addr c.beats
  { id := s.nextId, space := c.space, addr := c.addr, beats := c.beats, wr := c.wr, data := data, wno := wno, win := w,
    reqs := s.cardReqs w c.addr m data, delayed := false }

/-- The access of a card cycle started. -/
def State.startAccess (s : State) (n : PbNo) (a : CardAccess) : State :=
  (((s.fresh 1).modPb n fun b => { b with acc := some a }).pushCard n).cardTry n

/-- The cycle in progress set to be refused on its beats, counted by Levee when Levee refuses it (R233, R368). -/
def State.cardRefuse (s : State) (n : PbNo) (c : CardCycle) : State :=
  let s := if s.cardDenied n c.wr then s.bumpLev 9 else s
  s.modPb n fun b => { b with tgt := .data { c with mode := .refuse } }

/-- Whether a card cycle fails at stage 2 or 4 of Table 1.4. -/
def State.cardStops (s : State) (n : PbNo) (wr : Bool) : Bool := s.cardDenied n wr || (s.group.joined && s.group.fenced)

/-- CARD_SECOND_ADDRESS: the cycle decoded, unless it breaks a rule of R190, WR at another level than at the first fall among them;
a read's requests are issued (R202, R229). -/
def cardSecondAddress (n : PbNo) (ad : BitVec 18) (wr' : Bool) (s : State) : State :=
  match s.pb[n].tgt with
  | .gap w wr =>
    if !s.pb[n].observes then s
    else if !decodable w ad || wr' != wr then (s.bumpPb n 11).modPb n fun b => { b with tgt := .stray false }
    else
      let a := 4096 * awAddr w + awAddr ad
      let space := awSpace w
      let beats := awBeats w
      match s.cardWin n space a with
      | none =>
        s.modPb n fun b => { b with tgt := .data { space := space, addr := a, beats := beats, wr := wr, idx := 0, win := none,
                                                   mode := .access, data := [], dsLow := false } }
      | some (wno, v) =>
        let c : CardCycle := { space := space, addr := a, beats := beats, wr := wr, idx := 0, win := some (wno, v),
                               mode := s.pb[n].cardMode v space a beats wr, data := [], dsLow := false }
        let s := s.modPb n fun b => { b with tgt := .data c }
        if c.mode != .access || wr then s
        else if s.cardStops n false then s.cardRefuse n c
        else s.startAccess n (s.newAccess c wno v [])
  | _ => s

/-- A response given to the beat in progress, and counted in DELAYED when it is R203's RETRY. -/
def State.answerBeat (s : State) (n : PbNo) (a : BeatAns) : State := s.modPb n fun b => b.drive a

/-- The last beat of a card write captured: its requests go out (R119, R229); with another access pending, only an early
write that enters VC0 at once is taken (R203). -/
def State.cardWriteEnd (s : State) (n : PbNo) (c : CardCycle) (wno : Nat) (w : Win) (data : List (BitVec 18)) : State :=
  if s.cardStops n true then (s.cardRefuse n c).answerBeat n .error
  else
    let a := s.newAccess c wno w data
    match s.pb[n].acc with
    | none => s.startAccess n a
    | some old =>
      let q := State.issueCard n a 0 a.reqs (s.fresh 1)
      if w.early && decide (s.pb[n].ewaOut.length + a.reqs.length ≤ 16) && q.2.all fun r => r.issued then
        let s := q.1.modPb n fun b => { (b.drive (.done none)) with acc := some old, tgt := .data { c with idx := c.idx + 1 } }
        if 16 ≤ s.pb[n].ewaOut.length then s.flushEwa n fun _ => true else s
      else (s.bumpPb n 17).answerBeat n .retry

/-- The word a held write captured for beat `i` of a cycle that repeats its block or its last beat (R203, R229). -/
def CardAccess.heldWord (a : CardAccess) (beats i : Nat) : Option (BitVec 18) :=
  if beats = a.beats then a.data[i]? else a.data.getLast?

/-- A card's read beat: its access answers; where MXL deferred it, RETRY until the hint has passed, then a new access (R234). -/
def State.cardReadBeat (s : State) (n : PbNo) (c : CardCycle) (wno : Nat) (w : Win) : State :=
  if s.pb[n].acc.isSome then s.cardTry n
  else if s.pb[n].deferred c.space c.addr c.beats false then s.answerBeat n .retry
  else if s.cardStops n false then (s.cardRefuse n c).answerBeat n .error
  else s.startAccess n (s.newAccess c wno w [])

/-- A cycle whose last beat was captured and answered RETRY, with AS# still low: the beat is the same beat, and collects the held
result (R199, R203). -/
def CardCycle.again (c : CardCycle) (a : Option CardAccess) : CardCycle :=
  if c.data.length = c.idx + 1 && a.any fun a => a.delayed && a.repeated c.space c.addr c.beats true then { c with mode := .collect }
  else c

/-- A beat of a card write (R199, R204, R229, R234, R43). -/
def State.cardWriteBeat (s : State) (n : PbNo) (c : CardCycle) (wno : Nat) (w : Win) (ad : BitVec 18) : State :=
  let b := s.pb[n]
  let bad := w.width != .wide18 && !marksPass b.markSense ad
  let s := if bad then s.bumpPb n 9 else s
  let c := c.again b.acc
  if bad && !b.markCount then s.answerBeat n .markErr
  else if c.data.length = c.idx + 1 && b.deferred c.space c.addr c.beats true then s.answerBeat n .retry
  else
    let last := c.idx + 1 == w.beatsIn c.addr c.beats
    let data := c.data.take c.idx ++ [ad]
    let next := s.modPb n fun b => { b with tgt := .data { c with data := data } }
    if c.mode = .collect && (b.acc.bind fun a => a.heldWord c.beats c.idx) != some ad then
      (s.bumpPb n 17).answerBeat n .retry
    else if !last then
      next.modPb n fun b => { (b.drive (.done none)) with tgt := .data { c with data := data, idx := c.idx + 1 } }
    else if c.mode = .collect then next.cardTry n
    else next.cardWriteEnd n { c with data := data } wno w data

/-- The vector of the DIR = 1 route for a level (R213). -/
def State.vectorOf (s : State) (n : PbNo) (level : Nat) : Byte :=
  ((aget (routeKey n level 1) s.routes).map Route.vector).getD 0

/-- A beat of a card's IACK cycle: IACK_DECIDE (R213, R214). -/
def State.iackBeat (s : State) (n : PbNo) (c : CardCycle) : State :=
  let level := c.addr % 8
  let b := s.pb[n]
  if b.irqDrive.getLsbD level then
    s.answerBeat n (.done (some (withMarks b.markSense b.markZero ((s.vectorOf n level).setWidth 16))))
  else s.modPb n fun b => { b with pins := { b.pins with iack := some false } }

/-- A beat of a cycle that the device does not answer, but for TENABORT (R201, R211). -/
def State.strayBeat (s : State) (n : PbNo) : State :=
  let s := s.modPb n fun b => { b with tgt := .stray true }
  if s.pb[n].abortNext && s.pb[n].tenure.isSome then
    (s.answerBeat n .error).modPb n fun b => { b with abortNext := false }
  else s

/-- A cycle found to break R190 at a beat, WR having changed: counted, no longer followed, its access kept only if it is held. -/
def State.loseCycle (s : State) (n : PbNo) : State :=
  (s.bumpPb n 11).modPb n fun b => { b with acc := b.acc.filter fun a => a.delayed }

/-- CARD_DATA_STROBE: a card's DS# fall with WR at a level (R190, R202 to R204, R211, R213, R229). -/
def cardDataStrobe (n : PbNo) (ad : BitVec 18) (wr : Bool) (s : State) : State :=
  let b := s.pb[n]
  if !b.observes || b.cyc.isSome then s
  else match b.tgt with
    | .data c =>
      if c.dsLow then s
      else if wr != c.wr then (s.loseCycle n).strayBeat n
      else
        let c := { c with dsLow := true }
        let s := s.modPb n fun b => { b with tgt := .data c }
        if b.abortNext && b.tenure.isSome then
          (s.answerBeat n .error).modPb n fun b => { b with abortNext := false }
        else if c.space = 2 then s.iackBeat n c
        else match c.win with
          | none => s
          | some (wno, w) =>
            if !(c.idx < c.beats && w.holds (c.addr + c.idx)) then
              s.modPb n fun b => { b with tgt := .data { c with idx := c.idx + 1 } }
            else match c.mode with
              | .retry counted => (if counted then s.bumpPb n 17 else s).answerBeat n .retry
              | .refuse => s.answerBeat n .error
              | _ => if c.wr then s.cardWriteBeat n c wno w ad else s.cardReadBeat n c wno w
    | .stray low => if low then s else s.strayBeat n
    | _ => s

/-- The lines of the port released after a beat (R200, R204, R213). -/
def PbPins.endBeat (p : PbPins) : PbPins :=
  { (if p.dir.isSome then p.setDir false else p) with
      ackLow := false, rtyLow := false, berrLow := false, ad := none, iack := p.iack.map fun _ => true }

/-- An answered IACK beat releases the level (R241). -/
def Pb.endIack (b : Pb) (c : CardCycle) : Pb :=
  if c.space = 2 && b.pins.ackLow then
    { b with irqDrive := setBit b.irqDrive (c.addr % 8) false,
             pins := { b.pins with irqLow := setBit b.pins.irqLow (c.addr % 8) false } }
  else b

/-- An access whose cycle has ended without a RETRY answer is held for nobody. -/
def Pb.endCard (b : Pb) : Pb :=
  { b with tgt := .idle, acc := b.acc.filter fun a => a.delayed, pins := b.pins.endBeat }

/-- TGTRTY_EXPIRE: the answer is not ready in time (R203). -/
def tgtrtyExpire (n : PbNo) (s : State) : State :=
  let b := s.pb[n]
  match b.tgt, b.acc with
  | .data c, some a =>
    if !c.dsLow || b.pins.answering || c.win.isNone || (c.mode != .access && c.mode != .collect) then s
    else
      (s.bumpPb n 17).modPb n fun b => { (b.drive .retry) with acc := some { a with delayed := true } }
  | _, _ => s

/-- DLYHOLD_EXPIRE: a held result that no cycle has collected (R203). -/
def dlyholdExpire (n : PbNo) (s : State) : State :=
  match s.pb[n].acc with
  | some a =>
    if a.delayed && a.reqs.all fun r => r.done then (s.bumpPb n 18).modPb n Pb.dropAcc else s
  | none => s

/-- DEFER_HINT_END: the hint that ends first (R234). -/
def deferHintEnd (n : PbNo) (s : State) : State :=
  let l := s.pb[n].deferHold
  match l.find? fun d => l.all fun e => d.til ≤ e.til with
  | none => s
  | some d => s.modPb n fun b => { b with deferHold := b.deferHold.erase d }

/-- STRAYCYC_GAP (R190). -/
def straycycGap (n : PbNo) (s : State) : State :=
  match s.pb[n].tgt with
  | .gap _ _ => (s.bumpPb n 11).modPb n fun b => { b with tgt := .idle }
  | _ => s

/-! ### Meanings -/

/-- EWA_FLUSH_TIMER. -/
def execEwaFlushTimer (n : PbNo) (window : Byte) (s : State) : Host.Outcome State Fault Refusal :=
  .next (ewaFlushTimer n window s)

/-- CARD_ADDRESS_STROBE. -/
def execCardAddressStrobe (n : PbNo) (ad : BitVec 18) (wr : Bool) (s : State) : Host.Outcome State Fault Refusal :=
  .next (cardAddressStrobe n ad wr s)

/-- CARD_SECOND_ADDRESS. -/
def execCardSecondAddress (n : PbNo) (l : CardLines) (s : State) : Host.Outcome State Fault Refusal :=
  .next (cardSecondAddress n l.ad l.wr s)

/-- CARD_DATA_STROBE. -/
def execCardDataStrobe (n : PbNo) (l : CardLines) (s : State) : Host.Outcome State Fault Refusal :=
  .next (cardDataStrobe n l.ad l.wr s)

/-- TGTRTY_EXPIRE. -/
def execTgtrtyExpire (n : PbNo) (s : State) : Host.Outcome State Fault Refusal := .next (tgtrtyExpire n s)

/-- DLYHOLD_EXPIRE. -/
def execDlyholdExpire (n : PbNo) (s : State) : Host.Outcome State Fault Refusal := .next (dlyholdExpire n s)

/-- DEFER_HINT_END. -/
def execDeferHintEnd (n : PbNo) (s : State) : Host.Outcome State Fault Refusal := .next (deferHintEnd n s)

/-- STRAYCYC_GAP. -/
def execStraycycGap (n : PbNo) (s : State) : Host.Outcome State Fault Refusal := .next (straycycGap n s)

end Sys2Proof.Machine
end

