-- ==== Sys2Proof/Machine/Crypto.lean ====
section
/-! DEFINITION. The algorithms that the spec names by their standards (log 26): CRC and ones'-complement sums, SHA-384, ECDSA
and ECDH on P-384, AES-256-GCM. -/

namespace Sys2Proof.Machine

/-! ### CRC and checksums (Table 3.11) -/

/-- One bit of a reflected CRC. -/
def crcReflBit {w : Nat} (poly : BitVec w) (c : BitVec w) : BitVec w :=
  if c.getLsbD 0 then (c >>> 1) ^^^ poly else c >>> 1

/-- A byte into a reflected CRC; `poly` is the reflected polynomial. -/
def crcReflByte {w : Nat} (poly : BitVec w) (c : BitVec w) (b : Byte) : BitVec w :=
  (List.range 8).foldl (fun c _ => crcReflBit poly c) (c ^^^ b.setWidth w)

/-- One bit of a CRC taken most significant bit first. -/
def crcMsbBit {w : Nat} (poly : BitVec w) (c : BitVec w) : BitVec w :=
  if c.getLsbD (w - 1) then (c <<< 1) ^^^ poly else c <<< 1

/-- A byte into a CRC taken most significant bit first. -/
def crcMsbByte {w : Nat} (poly : BitVec w) (c : BitVec w) (b : Byte) : BitVec w :=
  (List.range 8).foldl (fun c _ => crcMsbBit poly c) (c ^^^ (b.setWidth w <<< (w - 8)))

/-- CRC32C: polynomial 0x1EDC6F41, reflected, no inversion. -/
def crc32c (c : BitVec 32) (l : List Byte) : BitVec 32 := l.foldl (crcReflByte 0x82F63B78) c

/-- CRC16: polynomial 0x1021, most significant bit first, no inversion. -/
def crc16 (c : BitVec 16) (l : List Byte) : BitVec 16 := l.foldl (crcMsbByte 0x1021) c

/-- CRC8: polynomial 0x07, most significant bit first, no inversion. -/
def crc8 (c : BitVec 8) (l : List Byte) : BitVec 8 := l.foldl (crcMsbByte 0x07) c

/-- Ones'-complement addition of 16-bit values. -/
def onesAdd (a b : BitVec 16) : BitVec 16 :=
  let t := a.toNat + b.toNat
  BitVec.ofNat 16 (t % 2 ^ 16 + t / 2 ^ 16)

/-- CSUM16. -/
def csum16 (c : BitVec 16) (l : List (BitVec 16)) : BitVec 16 := l.foldl onesAdd c

/-! ### Big-endian numbers -/

/-- The number that bytes spell, most significant first. -/
def beNat (l : List Byte) : Nat := l.foldl (fun n b => 256 * n + b.toNat) 0

/-- A number as `n` bytes, most significant first. -/
def beBytes (n v : Nat) : List Byte := (List.range n).map fun i => BitVec.ofNat 8 (v / 256 ^ (n - 1 - i))

/-! ### SHA-384 -/

/-- The largest number whose `k`-th power does not exceed `x`, grown from `r` by its low `n` bits. -/
def rootFloor (k x : Nat) : Nat → Nat → Nat
  | 0, r => r
  | n + 1, r => rootFloor k x n (if (r + 2 ^ n) ^ k ≤ x then r + 2 ^ n else r)

/-- The first 64 bits of the fraction of the `k`-th root of `p` (roots below 32). -/
def rootFraction (k p : Nat) : BitVec 64 := BitVec.ofNat 64 (rootFloor k (p * 2 ^ (64 * k)) 69 0)

/-- The primes below 410, the first 80. -/
def shaPrimes : List Nat :=
  (List.range 410).filter fun n => decide (2 ≤ n) && (List.range 21).all fun d => decide (d < 2 ∨ n ≤ d ∨ n % d ≠ 0)

/-- The round constants: the cube roots of the first 80 primes. -/
def shaRoundConstants : List (BitVec 64) := shaPrimes.map (rootFraction 3)

/-- The initial hash value of SHA-384: the square roots of the ninth to sixteenth primes. -/
def shaStart : List (BitVec 64) := ((shaPrimes.drop 8).take 8).map (rootFraction 2)

/-- The sum modulo two of several rotations of a word. -/
def rotations (x : BitVec 64) (ns : List Nat) : BitVec 64 := (ns.map x.rotateRight).foldl (· ^^^ ·) 0

/-- A hash in progress, as three shift registers: the working variables a to d and e to h, each newest first (b, c and d are
what a was one, two and three rounds ago), and the next sixteen words of the schedule, the next one first. -/
structure ShaRun where
  left : List (BitVec 64)
  right : List (BitVec 64)
  ahead : List (BitVec 64)
deriving DecidableEq, Repr

/-- The schedule's word sixteen rounds ahead. -/
def ShaRun.extend (r : ShaRun) : BitVec 64 :=
  let near := r.ahead.getD 1 0
  let far := r.ahead.getD 14 0
  r.ahead.getD 0 0 + r.ahead.getD 9 0 + (rotations near [1, 8] ^^^ near >>> 7) + (rotations far [19, 61] ^^^ far >>> 6)

/-- One round under the constant `k`. -/
def ShaRun.turn (r : ShaRun) (k : BitVec 64) : ShaRun :=
  let l := fun i => r.left.getD i 0
  let e := fun i => r.right.getD i 0
  let feed := k + r.ahead.getD 0 0 + e 3 + rotations (e 0) [14, 18, 41] + (e 2 ^^^ (e 0 &&& (e 1 ^^^ e 2)))
  let vote := (l 0 &&& (l 1 ||| l 2)) ||| (l 1 &&& l 2)
  { left := (feed + vote + rotations (l 0) [28, 34, 39]) :: r.left.take 3, right := (feed + l 3) :: r.right.take 3,
    ahead := r.ahead.drop 1 ++ [r.extend] }

/-- The hash value after a block of sixteen words. -/
def shaCompress (hash block : List (BitVec 64)) : List (BitVec 64) :=
  let r := shaRoundConstants.foldl ShaRun.turn { left := hash.take 4, right := hash.drop 4, ahead := block }
  List.zipWith (· + ·) hash (r.left ++ r.right)

/-- Word `i` of a string of bytes, most significant byte first. -/
def beWordAt (l : List Byte) (i : Nat) : BitVec 64 := BitVec.ofNat 64 (beNat ((l.drop (8 * i)).take 8))

/-- A message with the padding of SHA-384: a one bit, zeros, and its length in bits as 16 bytes, up to `n` blocks of 128. -/
def shaPad (n : Nat) (l : List Byte) : List Byte :=
  l ++ 0x80 :: List.replicate (128 * n - (l.length + 17)) 0 ++ beBytes 16 (8 * l.length)

/-- SHA-384 of a string of bytes (FIPS 180-4). -/
def sha384 (l : List Byte) : List Byte :=
  let n := (l.length + 144) / 128
  let msg := shaPad n l
  let hash := (List.range n).foldl
    (fun h b => shaCompress h ((List.range 16).map fun i => beWordAt msg (16 * b + i))) shaStart
  beBytes 48 ((hash.take 6).foldl (fun v w => v * 2 ^ 64 + w.toNat) 0)

/-! ### P-384 (FIPS 186, SEC 2) -/

/-- The field prime of P-384. -/
def p384P : Nat := 2 ^ 384 - 2 ^ 128 - 2 ^ 96 + 2 ^ 32 - 1

/-- The group order of P-384. -/
def p384N : Nat :=
  0xffffffffffffffffffffffffffffffffffffffffffffffffc7634d81f4372ddf581a0db248b0a77aecec196accc52973

/-- The constant b of P-384; a is -3. -/
def p384B : Nat :=
  0xb3312fa7e23ee7e4988e056be3f82d19181d9c6efe8141120314088f5013875ac656398d8a2ed19d2a85c8edd3ec2aef

/-- The base point of P-384. -/
def p384G : Nat × Nat :=
  (0xaa87ca22be8b05378eb1c71ef320ad746e1d3b628ba79b9859f741e082542a385502f25dbf55296c3a545e3872760ab7,
   0x3617de4a96262c6f5d9e98bf9292dc29f8f41dbd289a147ce9da3113b5f0b8c00a60b1ce1d7e819d7a431d7c90ea0e5f)

/-- A power modulo `m`, by squaring over the low `fuel` bits of the exponent. -/
def powMod (m : Nat) : Nat → Nat → Nat → Nat
  | 0, _, _ => 1 % m
  | fuel + 1, b, e =>
    let r := powMod m fuel (b * b % m) (e / 2)
    if e % 2 = 1 then b * r % m else r

/-- The inverse modulo a prime below 2^384. -/
def invMod (m a : Nat) : Nat := powMod m 384 (a % m) (m - 2)

/-- A difference modulo `m`. -/
def subMod (m a b : Nat) : Nat := (a + (m - b % m)) % m

/-- The sum of two points; `none` is the point at infinity. -/
def p384Add (a b : Option (Nat × Nat)) : Option (Nat × Nat) :=
  match a, b with
  | none, q => q
  | q, none => q
  | some (x1, y1), some (x2, y2) =>
    if x1 = x2 && (y1 + y2) % p384P = 0 then none
    else
      let s :=
        if x1 = x2 then subMod p384P (3 * x1 * x1) 3 * invMod p384P (2 * y1) % p384P
        else subMod p384P y2 y1 * invMod p384P (subMod p384P x2 x1) % p384P
      let x3 := subMod p384P (s * s) (x1 + x2)
      some (x3, subMod p384P (s * subMod p384P x1 x3) y1)

/-- A multiple of a point, over the low `fuel` bits of the factor. -/
def p384Mul : Nat → Nat → Option (Nat × Nat) → Option (Nat × Nat)
  | 0, _, _ => none
  | fuel + 1, k, q =>
    let r := p384Mul fuel (k / 2) (p384Add q q)
    if k % 2 = 1 then p384Add q r else r

/-- Whether a pair is a point of the curve. -/
def p384On (x y : Nat) : Bool :=
  decide (x < p384P) && decide (y < p384P) && y * y % p384P == subMod p384P (x * x * x + p384B) (3 * x)

/-- ECDSA verification of a 384-bit digest (FIPS 186). -/
def ecdsaVerify (digest r s x y : Nat) : Bool :=
  1 ≤ r && r < p384N && 1 ≤ s && s < p384N && p384On x y &&
    (let w := invMod p384N s
     match p384Add (p384Mul 384 (digest * w % p384N) (some p384G)) (p384Mul 384 (r * w % p384N) (some (x, y))) with
     | some (vx, _) => vx % p384N == r
     | none => false)

/-- ECDSA signature of a digest under a private key and a per-signature secret, both in 1 to n - 1. -/
def ecdsaSign (digest d k : Nat) : Nat × Nat :=
  let r := (((p384Mul 384 k (some p384G)).map Prod.fst).getD 0) % p384N
  (r, invMod p384N k * (digest + r * d) % p384N)

/-! ### AES-256 (FIPS 197) -/

/-- Multiplication by x in the field of AES. -/
def aesXtime (a : Byte) : Byte := if a.getLsbD 7 then (a <<< 1) ^^^ 0x1B else a <<< 1

/-- Multiplication in the field of AES. -/
def aesMul (a b : Byte) : Byte :=
  ((List.range 8).foldl (fun (p : Byte × Byte) i => (if b.getLsbD i then p.1 ^^^ p.2 else p.1, aesXtime p.2)) (0, a)).1

/-- The square of a byte in the field of AES. -/
def aesSq (a : Byte) : Byte := aesMul a a

/-- The inverse of a byte in the field of AES, its 254th power; 0 gives 0. -/
def aesInv (a : Byte) : Byte :=
  ((List.range 7).foldl (fun (p : Byte × Byte) _ => let q := aesSq p.2; (aesMul p.1 q, q)) (1, a)).1

/-- The S-box. -/
def aesSbox (a : Byte) : Byte :=
  let b := aesInv a
  b ^^^ b.rotateLeft 1 ^^^ b.rotateLeft 2 ^^^ b.rotateLeft 3 ^^^ b.rotateLeft 4 ^^^ 0x63

/-- Two strings of bytes exclusive-ORed. -/
def xorBytes (a b : List Byte) : List Byte := List.zipWith (fun x y => x ^^^ y) a b

/-- The key words that follow the last eight, `w`, oldest first; `i` is the number of the next one. -/
def aesKeyWords : Nat → Nat → Byte → List (List Byte) → List (List Byte)
  | 0, _, _, _ => []
  | n + 1, i, rcon, w =>
    let t := w.getD 7 []
    let t :=
      if i % 8 = 0 then xorBytes ((t.drop 1 ++ t.take 1).map aesSbox) [rcon, 0, 0, 0]
      else if i % 8 = 4 then t.map aesSbox else t
    let x := xorBytes (w.getD 0 []) t
    x :: aesKeyWords n (i + 1) (if i % 8 = 0 then aesXtime rcon else rcon) (w.drop 1 ++ [x])

/-- The 60 words of the key schedule, as 15 round keys of 16 bytes. -/
def aesKeys (key : List Byte) : List (List Byte) :=
  let first := (List.range 8).map fun i => (key.drop (4 * i)).take 4
  let all := (first ++ aesKeyWords 52 8 1 first).flatten
  (List.range 15).map fun i => (all.drop (16 * i)).take 16

/-- ShiftRows on a state held column by column. -/
def aesShift (l : List Byte) : List Byte := (List.range 16).map fun i => l.getD ((i + 4 * (i % 4)) % 16) 0

/-- MixColumns. -/
def aesMix (l : List Byte) : List Byte :=
  (List.range 16).map fun i =>
    let c := i - i % 4
    let at_ := fun k => l.getD (c + (i + k) % 4) 0
    aesXtime (at_ 0) ^^^ aesXtime (at_ 1) ^^^ at_ 1 ^^^ at_ 2 ^^^ at_ 3

/-- One block encrypted under a key schedule. -/
def aesBlock (keys : List (List Byte)) (l : List Byte) : List Byte :=
  let s := xorBytes l (keys.getD 0 [])
  let s := (List.range 13).foldl (fun s r => xorBytes (aesMix (aesShift (s.map aesSbox))) (keys.getD (r + 1) [])) s
  xorBytes (aesShift (s.map aesSbox)) (keys.getD 14 [])

/-! ### GCM (SP 800-38D) -/

/-- Multiplication in the field of GHASH, bit 0 of a block being the most significant bit of the number. -/
def ghashMul (x y : BitVec 128) : BitVec 128 :=
  ((List.range 128).foldl (fun (p : BitVec 128 × BitVec 128) i =>
    (if x.getLsbD (127 - i) then p.1 ^^^ p.2 else p.1,
     if p.2.getLsbD 0 then (p.2 >>> 1) ^^^ (0xE1#128 <<< 120) else p.2 >>> 1)) (0, y)).1

/-- GHASH over `n` blocks of 16 bytes, a short last one filled with zeros. -/
def ghash (h : BitVec 128) : Nat → BitVec 128 → List Byte → BitVec 128
  | 0, y, _ => y
  | n + 1, y, l =>
    let b := l.take 16
    ghash h n (ghashMul (y ^^^ BitVec.ofNat 128 (beNat (b ++ List.replicate (16 - b.length) 0))) h) (l.drop 16)

/-- The blocks of a string. -/
def blocksOf (l : List Byte) : Nat := (l.length + 15) / 16

/-- Counter mode from block counter `c`, `n` blocks. -/
def gcmCtr (keys : List (List Byte)) (nonce : List Byte) : Nat → Nat → List Byte → List Byte
  | 0, _, _ => []
  | n + 1, c, l => xorBytes (l.take 16) (aesBlock keys (nonce ++ beBytes 4 c)) ++ gcmCtr keys nonce n (c + 1) (l.drop 16)

/-- The text encrypted or decrypted. -/
def gcmCrypt (keys : List (List Byte)) (nonce l : List Byte) : List Byte := gcmCtr keys nonce (blocksOf l) 2 l

/-- The tag over AAD and ciphertext. -/
def gcmTag (keys : List (List Byte)) (nonce aad c : List Byte) : List Byte :=
  let h := BitVec.ofNat 128 (beNat (aesBlock keys (List.replicate 16 0)))
  let y := ghash h (blocksOf c) (ghash h (blocksOf aad) 0 aad) c
  let y := ghash h 1 y (beBytes 8 (8 * aad.length) ++ beBytes 8 (8 * c.length))
  xorBytes (beBytes 16 y.toNat) (aesBlock keys (nonce ++ beBytes 4 1))

end Sys2Proof.Machine
end

