-- ==== Sys2Proof/Machine/Field.lean ====
section
/-! DEFINITION. FP and LP pins: the winning channel, drive requests, protection, readback and contention (R287 to R291,
R311 to R319). -/

namespace Sys2Proof.Machine

/-! ### Who drives a pin (R288, R290) -/

/-- The channels in order of global number. -/
def allChans : List ChanNo := (List.range 64).map (Fin.ofNat 64)

/-- The channel that drives a pin: the lowest-numbered one that enables it (R290). -/
def State.winner (s : State) (pin : Nat) : Option ChanNo := allChans.find? fun g => s.chans[g].ens.getLsbD pin

/-- The drive request of an FP pin is low (text before R311). -/
def State.fpLow (s : State) (i : Nat) : Bool :=
  match s.winner i with
  | some g => !s.chans[g].vals.getLsbD i
  | none => false

/-- Whether an FP pin is pulled low (R291, R311). -/
def State.fpPulls (s : State) (i : Fin 16) : Bool :=
  s.field.fpOn && s.fpLow i.val && (s.field.fp[i].prot == .normal || s.field.fp[i].prot == .limit)

/-- The value an LP pin drives; `none` is high impedance (R288, R291, R318). -/
def State.lpDrives (s : State) (i : Fin 16) : Option Bool :=
  if !s.field.lpOn || s.field.lp[i].off then none
  else (s.winner (16 + i.val)).map fun g => s.chans[g].vals.getLsbD (16 + i.val)

/-- CONTEND and PRIOLOST of every channel that loses a pin (R290). -/
def State.contend (s : State) : State :=
  (allChans.foldl (fun (a : BitVec 32 × State) g =>
    let e := a.2.chans[g].ens
    (a.1 ||| e, if e &&& a.1 = 0 then a.2 else a.2.modChan g fun c => { c with flags := c.flags ||| 0x0C })) (0, s)).2

/-! ### Changes of drive -/

/-- One FP pin changed. -/
def State.modFp (s : State) (i : Fin 16) (f : FpPin → FpPin) : State :=
  { s with field := { s.field with fp := vmod s.field.fp i f } }

/-- One LP pin changed. -/
def State.modLp (s : State) (i : Fin 16) (f : LpPin → LpPin) : State :=
  { s with field := { s.field with lp := vmod s.field.lp i f } }

/-- The 16 pins of a group. -/
def allPins : List (Fin 16) := (List.range 16).map (Fin.ofNat 16)

/-- LP policy RESUME of a pin (Table 12.8). -/
def State.lpResumes (s : State) (i : Fin 16) : Bool := !(s.fld .field 0 1).testBit i.val

/-- A drive change of an FP pin made by channel `g`'s instruction arms the readback sample (R316). -/
def State.armReadback (old : State) (g : ChanNo) (s : State) (i : Fin 16) : State :=
  if old.fpLow i.val = s.fpLow i.val && old.winner i.val = s.winner i.val then s
  else s.modFp i fun p => { p with readback := some g }

/-- Whether a channel's value or enable for a pin differs between two states. -/
def State.redrives (old s : State) (pin : Nat) (g : ChanNo) : Bool :=
  old.chans[g].vals.getLsbD pin != s.chans[g].vals.getLsbD pin || old.chans[g].ens.getLsbD pin != s.chans[g].ens.getLsbD pin

/-- The winning channel's change of value or enable, whatever made it, lets an LP pin drive again under RESUME and starts the compare
anew (R318). -/
def State.resumeLp (old : State) (s : State) (i : Fin 16) : State :=
  let pin := 16 + i.val
  if (old.winner pin).any (old.redrives s pin) || (s.winner pin).any (old.redrives s pin) then
    s.modLp i fun p => { off := p.off && !s.lpResumes i, contending := false }
  else s

/-- What a change of values or enables does at the pins (R290, R318). -/
def State.drivesChanged (old : State) (s : State) : State := (allPins.foldl (State.resumeLp old) s).contend

/-- What a channel instruction's change of values or enables does at the pins (R290, R316, R318). -/
def State.driveChanged (old : State) (g : ChanNo) (s : State) : State :=
  State.drivesChanged old (allPins.foldl (State.armReadback old g) s)

/-- Ball levels as channels read them: 0 on a disabled group (R291). -/
def State.ballsRead (s : State) (balls : BitVec 32) : BitVec 32 :=
  balls &&& ((if s.field.lpOn then 0xFFFF#16 else 0#16) ++ (if s.field.fpOn then 0xFFFF#16 else 0#16))

/-- A sticky flag of the channel that wins a pin set (R319); with no winner nothing is. -/
def State.flagWinner (s : State) (pin : Nat) (flags : BitVec 7) : State :=
  match s.winner pin with
  | some g => s.showFlags g (· ||| flags)
  | none => s

/-! ### FP protection (R311 to R314) -/

/-- FP policy codes (Table 12.8): 0 RETRY, 1 LATCH, 2 RETRY7. -/
def State.fpPolicy (s : State) (i : Fin 16) : Nat := s.fld .field 0 0 / 4 ^ i.val % 4

/-- LIMIT_ONSET (R311, R312). -/
def limitOnset (i : Fin 16) (s : State) : State :=
  if s.fpPulls i && s.field.fp[i].prot = .normal then s.modFp i fun p => { p with prot := .limit } else s

/-- LIMIT_END (Table 12.2). -/
def limitEnd (i : Fin 16) (s : State) : State :=
  if s.field.fp[i].prot = .limit then s.modFp i fun p => { p with prot := .normal } else s

/-- SHORT_FLAG (Table 12.3 step 2, R319). -/
def shortFlag (i : Fin 16) (s : State) : State :=
  if s.field.fp[i].prot = .limit then
    ((((s.modFp i fun p => { p with short := true }).bumpField 3).flagWinner i.val 0x10).raiseEvent evField).wake
  else s

/-- A pin turned off under a policy (R313): RETRY and RETRY7 wait, the seventh turn-off of RETRY7 and every one of LATCH
latches. -/
def FpPin.turnOff (policy : Nat) (p : FpPin) : FpPin :=
  let n := p.turnOffs + 1
  if policy = 1 then { p with prot := .latched, turnOffs := n }
  else { p with prot := if policy = 2 && 7 ≤ n then .latched else .off, turnOffs := n, backoff := min (2 * p.backoff) 64 }

/-- TURN_OFF (Table 12.3 step 3, R313, R319). -/
def turnOff (i : Fin 16) (s : State) : State :=
  if s.field.fp[i].prot = .limit then
    (((s.modFp i (FpPin.turnOff (s.fpPolicy i))).bumpField 4).raiseEvent evField).wake
  else s

/-- BACKOFF_END (R313). -/
def backoffEnd (i : Fin 16) (s : State) : State :=
  if s.field.fp[i].prot = .off then s.modFp i fun p => { p with prot := .normal } else s

/-- BACKOFF_RESET: 1 s without limit onset (R313). -/
def backoffReset (i : Fin 16) (s : State) : State :=
  if s.field.fp[i].prot = .limit then s else s.modFp i fun p => { p with backoff := 1, turnOffs := 0 }

/-- A pin cleared by R314. -/
def FpPin.clear (p : FpPin) : FpPin := { p with prot := .normal, short := false, backoff := 1, turnOffs := 0 }

/-- FPCLEAR of a mask (R314). -/
def State.fpClear (s : State) (m : Nat) : State :=
  allPins.foldl (fun s i => if m.testBit i.val then s.modFp i FpPin.clear else s) s

/-- LPCLEAR of a mask (R318). -/
def State.lpClear (s : State) (m : Nat) : State :=
  allPins.foldl (fun s i => if m.testBit i.val then s.modLp i fun _ => { off := false, contending := false } else s) s

/-- PORT DISABLE of FP0 to FP15 (R71, R314). -/
def State.disableFp (s : State) : State :=
  ({ s with field := { s.field with fpOn := false } }).fpClear 0xFFFF

/-- PORT DISABLE of LP0 to LP15 (R71, R318). -/
def State.disableLp (s : State) : State :=
  ({ s with field := { s.field with lpOn := false } }).lpClear 0xFFFF

/-! ### Readback and contention (R316 to R318) -/

/-- READBACK_SAMPLE: the ball 500 ns after the last drive change (R316). -/
def readbackSample (i : Fin 16) (ball : Bool) (s : State) : State :=
  match s.field.fp[i].readback with
  | none => s
  | some g =>
    let s := s.modFp i fun p => { p with readback := none }
    if s.field.fpOn && s.chans[g].cfg.rbCheck && ball = s.fpLow i.val then
      ((((s.showFlags g (· ||| 0x04)).bumpField 5).raiseEvent evField)).wake
    else s

/-- LP_CONTENTION: a difference of 200 ns (R318). -/
def lpContention (i : Fin 16) (s : State) : State :=
  if (s.lpDrives i).isSome then
    (((((s.modLp i fun p => { p with contending := true }).bumpField 6).flagWinner (16 + i.val) 0x04).raiseEvent evField)).wake
  else s

/-- LP_RELEASE: the difference has lasted 2 us (R318). -/
def lpRelease (i : Fin 16) (s : State) : State :=
  if (s.lpDrives i).isSome && s.field.lp[i].contending then s.modLp i fun _ => { off := true, contending := false } else s

/-! ### Meanings -/

/-- LIMIT_ONSET. -/
def execLimitOnset (i : Fin 16) (s : State) : Host.Outcome State Fault Refusal := .next (limitOnset i s)

/-- LIMIT_END. -/
def execLimitEnd (i : Fin 16) (s : State) : Host.Outcome State Fault Refusal := .next (limitEnd i s)

/-- SHORT_FLAG. -/
def execShortFlag (i : Fin 16) (s : State) : Host.Outcome State Fault Refusal := .next (shortFlag i s)

/-- TURN_OFF. -/
def execTurnOff (i : Fin 16) (s : State) : Host.Outcome State Fault Refusal := .next (turnOff i s)

/-- BACKOFF_END. -/
def execBackoffEnd (i : Fin 16) (s : State) : Host.Outcome State Fault Refusal := .next (backoffEnd i s)

/-- BACKOFF_RESET. -/
def execBackoffReset (i : Fin 16) (s : State) : Host.Outcome State Fault Refusal := .next (backoffReset i s)

/-- READBACK_SAMPLE. -/
def execReadbackSample (i : Fin 16) (ball : Bool) (s : State) : Host.Outcome State Fault Refusal :=
  .next (readbackSample i ball s)

/-- LP_CONTENTION. -/
def execLpContention (i : Fin 16) (s : State) : Host.Outcome State Fault Refusal := .next (lpContention i s)

/-- LP_RELEASE. -/
def execLpRelease (i : Fin 16) (s : State) : Host.Outcome State Fault Refusal := .next (lpRelease i s)

end Sys2Proof.Machine
end

