-- ==== Sys2Proof/Machine/System.lean ====
section
/-! DEFINITION. SYS instructions and TIMER_EXPIRE (Tables 3.8 to 3.10, 5.4; R57 to R60, R63, R104 to R108). -/

namespace Sys2Proof.Machine

/-- Which operand fields a SYS function uses (Table 3.8); the others are 0 (R46). -/
structure SysUse where
  wd : Bool
  wa : Bool
  imm : Bool

/-- Whether an unused operand field is not 0. -/
def SysUse.broken (u : SysUse) (f : FmtR) : Bool :=
  (!u.wd && f.wd != 0) || (!u.wa && f.wa != 0) || f.wb != 0 || (!u.imm && f.imm9 != 0)

/-- A SYS instruction's meaning where its unused fields are 0 (Table 3.8). -/
def sysAt (fn : BitVec 6) (f : FmtR) (u : SysUse) (body : State → Issued) (s : State) : Issued :=
  Issued.unless (u.broken f) (encR 0x01 fn f) (body s)

/-- A SYS instruction (Table 3.8). -/
def sys (t : Thread) (fn : BitVec 6) (f : FmtR) (u : SysUse) (commit : Bool) (body : State → Issued) (s : State) : State :=
  s.issue t (encR 0x01 fn f) (if u.wa then [f.wa] else []) commit (sysAt fn f u body)

/-- No operands. -/
def SysUse.none : SysUse := { wd := false, wa := false, imm := false }

/-- ILLEGAL of a SYS instruction. -/
def sysIllegal (fn : BitVec 6) (f : FmtR) : Issued := .except xIllegal ((encR 0x01 fn f).setWidth 64)

/-- The instruction stays at its IA and waits (R60, R58). -/
def State.waitFor (s : State) (t : Thread) (w : Wait) : Issued := .wait (s.modThread t fun th => { th with wait := w })

/-! ### Stopping and starting threads (R59, R96, R107) -/

/-- HALT of a thread: stopped, reservation cleared (R96). -/
def ThreadSt.halt (th : ThreadSt) : ThreadSt := { th with run := .halted, resv := none }

/-- How many of a thread's queued instructions have committed: an EFFECT operation at the head of the queue that waits for its
unit (R89); nothing else in the queue has. -/
def ThreadSt.committedHead (th : ThreadSt) : Nat :=
  match th.cq with
  | e :: _ => if e.what == .start && (useOf e.enc).any fun k => k.unit.isSome then 1 else 0
  | [] => 0

/-- A thread's uncommitted instructions squashed, its started PURE operations run on into the shadow (R59, R85, R93). -/
def State.squashThread (s : State) (t : Thread) : State := s.squashFrom t (s.thr t).committedHead

/-- What a stopping thread still waits in: a committed barrier, OTOK or MBWR, but no WAITEV, to which no event has been returned
(log 92). -/
def Wait.toComplete : Wait → Wait
  | .waitev _ _ => .none
  | w => w

/-- TSTOP for another, running thread (R59). -/
def State.stopThread (s : State) (u : Thread) : State :=
  if (s.thr u).run != .running || (s.thr u).stopping then s
  else
    let s := s.squashThread u
    (s.modThread u fun th =>
      { th with wait := th.wait.toComplete, yielded := false, stopping := true, resv := none }).checkStop u

/-- TSTART for a thread that does not run (R59). -/
def State.startThread (s : State) (u : Thread) (ia : BitVec 24) : State :=
  if (s.thr u).run = .running then s
  else s.modThread u fun th =>
    { th with run := .running, ia := ia, statCause := 0, wait := .none, yielded := false, stopping := false }

/-- The thread that IMM9 names (R59). -/
def immThread (f : FmtR) : Thread := Fin.ofNat 8 (f.imm9.extractLsb' 0 3).toNat

/-- Whether IMM9 names a thread: its bits [8:3] are 0 (R59). -/
def immNames (f : FmtR) : Bool := f.imm9.extractLsb' 3 6 == 0

/-! ### Thread state (Table 3.9) -/

/-- XRD's value of a selector. -/
def ThreadSt.selected (th : ThreadSt) (t : Thread) : Nat → Option Data
  | 0 => some (th.xia.setWidth 64)
  | 1 => some (th.xcause.setWidth 64)
  | 2 => some th.xinfo
  | 3 => some (th.handler.setWidth 64)
  | 4 => some th.timercmp
  | 5 => some (BitVec.ofNat 64 t.val)
  | 6 => some (if th.hmode then 1 else 0)
  | _ => none

/-- XWR to a selector. -/
def ThreadSt.select (th : ThreadSt) (d : Data) : Nat → Option ThreadSt
  | 0 => some { th with xia := d.extractLsb' 0 24 }
  | 1 => some { th with xcause := d.extractLsb' 0 6 }
  | 2 => some { th with xinfo := d }
  | 3 => some { th with handler := d.extractLsb' 0 32 }
  | 4 => some { th with timercmp := d }
  | _ => none

/-! ### Time and mailbox -/

/-- Whether the member is fenced from time-stamped functions (R355). -/
def State.timeFenced (s : State) : Bool := s.time.state == 1 || s.time.state == 4

/-- A word that carries Plant Time (R57, R301). -/
def State.timeWord (s : State) (tag : Byte) (d : Data) : Word :=
  mkWord (mkTag (tagOrigin tag) (tagTrust tag) (!s.timeFenced) false) d

/-- The tag of a word taken from the inbound mailbox (Table 14.4). -/
def State.hostTag (s : State) : Byte := mkTag 15 (BitVec.ofNat 2 (s.lev 5)) true false

/-- MBRD (R58). -/
def State.takeMb (s : State) (t : Thread) (wd : Reg) : State :=
  match s.hcb.mbIn with
  | [] => s.setReg t wd emptyWord
  | d :: r => ({ s with hcb := { s.hcb with mbIn := r } }).setReg t wd (mkWord s.hostTag d)

/-- A waiting MBWR puts its word while there is room (R58); of several threads that wait, T0 first (DESIGN CHOICE, log 91: the
spec gives no order among them). -/
def State.fillMbOut (s : State) : State :=
  if !s.clocked then s
  else
    allThreads.foldl (fun s t =>
      match (s.thr t).wait with
      | .mbwr w =>
        if s.hcb.mbOut.length < 16 then
          ({ s with hcb := { s.hcb with mbOut := s.hcb.mbOut ++ [w] } }).modThread t fun th => { th with wait := .none, ia := th.ia + 1 }
        else s
      | _ => s) s

/-! ### Barriers (Table 5.4) -/

/-- Every open entry of a thread closed; its entries start to drain where the barrier wants it (R105). -/
def State.closeEntries (s : State) (t : Thread) (drain : Bool) : State :=
  { s with seq := { s.seq with
      conf := s.seq.conf.map fun e =>
        if e.thread = t then (if drain then e.start else { e with isOpen := false }) else e } }

/-- The posted writes of a thread that no flush follows yet. -/
def State.unflushed (s : State) (t : Thread) : List PostedOut :=
  s.seq.postedOut.filter fun q => q.thread = t && q.flush.isNone

/-- One flush to an endpoint, behind the posted writes to it (R106). -/
def State.flushOne (s : State) (q : PostedOut) : State :=
  if (s.freeTag q.port).isNone then s
  else
    let id := s.nextId
    let s := s.fresh 1
    let s := s.issueReq q.port (.fenceFlush q.thread id) .flush (plainReq (plainHdr 0 0 0) q.addr [])
    { s with seq := { s.seq with postedOut := s.seq.postedOut.map fun x => if x = q then { x with flush := some id } else x } }

/-- A barrier (R104 to R106): FENCE.IO sends its flushes, one for each endpoint. -/
def State.barrier (s : State) (t : Thread) (k : FenceNeeds) : State :=
  let s := s.closeEntries t (k.stores || k.io)
  let s := if k.io then (s.unflushed t).foldl State.flushOne s else s
  s.modThread t fun th => { th with wait := .fence k }

/-- A barrier at issue; FENCE.IO waits for tags for its flushes. -/
def fence (t : Thread) (fn : BitVec 6) (k : FenceNeeds) (f : FmtR) (s : State) : State :=
  sys t fn f SysUse.none true (fun s =>
    if k.io && (s.unflushed t).any (fun q => (s.freeTag q.port).isNone) then .stall s else .done (s.barrier t k)) s

/-! ### Meanings -/

/-- NOP (Table 3.8). -/
def execNop (t : Thread) (f : FmtR) (s : State) : Next := .next (sys t 0x01 f SysUse.none false (fun s => .done s) s)

/-- HALT at its commit (Table 3.8, R96). -/
def haltAt (t : Thread) (s : State) : Issued := .done (s.modThread t ThreadSt.halt)

/-- HALT. -/
def execHalt (t : Thread) (f : FmtR) (s : State) : Next := .next (sys t 0x02 f SysUse.none true (haltAt t) s)

/-- YIELD (R79). -/
def execYield (t : Thread) (f : FmtR) (s : State) : Next :=
  .next (sys t 0x03 f SysUse.none false (fun s => .done (s.modThread t fun th => { th with yielded := true })) s)

/-- ERET (R63, R96). -/
def execEret (t : Thread) (f : FmtR) (s : State) : Next :=
  .next (sys t 0x04 f SysUse.none true (fun s =>
    if (s.thr t).hmode then .jump (s.modThread t ThreadSt.eret) (s.thr t).xia else sysIllegal 0x04 f) s)

/-- TRAP at its commit: XINFO is IMM9 and XIA the next IA (Table 3.8). -/
def trapAt (t : Thread) (f : FmtR) (s : State) : Issued :=
  let s' := s.except t xTrap (f.imm9.setWidth 64) ((s.thr t).ia + 1)
  .jump s' (s'.thr t).ia

/-- The operand fields that TRAP, TSTOP and OTOK use. -/
def SysUse.immOnly : SysUse := { wd := false, wa := false, imm := true }

/-- TRAP. -/
def execTrap (t : Thread) (f : FmtR) (s : State) : Next := .next (sys t 0x05 f SysUse.immOnly true (trapAt t f) s)

/-- WAITEV (R60). -/
def execWaitev (t : Thread) (f : FmtR) (s : State) : Next :=
  .next (sys t 0x06 f { wd := true, wa := true, imm := false } true (fun s =>
    let mask := (dataOf (s.reg t f.wa)).extractLsb' 0 13
    let ev := (s.levels t ||| s.seq.sticky) &&& mask
    if mask = 0 then .done (s.setReg t f.wd (constWord 0))
    else if ev = 0 then s.waitFor t (.waitev f.wd mask)
    else
      let s := s.setReg t f.wd (constWord (ev.setWidth 64))
      .done { s with seq := { s.seq with sticky := s.seq.sticky &&& ~~~ev } }) s)

/-- TSTART at its commit (R59). -/
def tstartAt (t : Thread) (f : FmtR) (s : State) : Issued :=
  if immNames f then .done (s.startThread (immThread f) ((dataOf (s.reg t f.wa)).extractLsb' 0 24))
  else sysIllegal 0x07 f

/-- The operand fields that TSTART uses. -/
def SysUse.waImm : SysUse := { wd := false, wa := true, imm := true }

/-- TSTART. -/
def execTstart (t : Thread) (f : FmtR) (s : State) : Next := .next (sys t 0x07 f SysUse.waImm true (tstartAt t f) s)

/-- TSTOP at its commit (R59); naming its own thread it acts as HALT. -/
def tstopAt (t : Thread) (f : FmtR) (s : State) : Issued :=
  if !immNames f then sysIllegal 0x08 f
  else if immThread f = t then .done (s.modThread t ThreadSt.halt)
  else .done (s.stopThread (immThread f))

/-- TSTOP. -/
def execTstop (t : Thread) (f : FmtR) (s : State) : Next := .next (sys t 0x08 f SysUse.immOnly true (tstopAt t f) s)

/-- XRD (Table 3.9). -/
def execXrd (t : Thread) (f : FmtR) (s : State) : Next :=
  .next (sys t 0x09 f { wd := true, wa := false, imm := true } false (fun s =>
    match (s.thr t).selected t f.imm9.toNat with
    | some d => .done (s.setReg t f.wd (constWord d))
    | none => sysIllegal 0x09 f) s)

/-- XWR (Table 3.9). -/
def execXwr (t : Thread) (f : FmtR) (s : State) : Next :=
  .next (sys t 0x0A f { wd := false, wa := true, imm := true } true (fun s =>
    match (s.thr t).select (dataOf (s.reg t f.wa)) f.imm9.toNat with
    | some th => .done (s.modThread t fun _ => th)
    | none => sysIllegal 0x0A f) s)

/-- TIME (R57). -/
def execTime (t : Thread) (f : FmtR) (s : State) : Next :=
  .next (sys t 0x0B f { wd := true, wa := false, imm := false } false (fun s =>
    .done (s.setReg t f.wd (s.timeWord constTag s.time.now))) s)

/-- The operand fields that MBRD uses. -/
def SysUse.wdOnly : SysUse := { wd := true, wa := false, imm := false }

/-- MBRD (R58). -/
def execMbrd (t : Thread) (f : FmtR) (s : State) : Next :=
  .next (sys t 0x0C f SysUse.wdOnly true (fun s => .done (s.takeMb t f.wd)) s)

/-- MBWR (R58): a full mailbox makes the thread wait. -/
def execMbwr (t : Thread) (f : FmtR) (s : State) : Next :=
  .next (sys t 0x0D f { wd := false, wa := true, imm := false } true (fun s =>
    let w := s.reg t f.wa
    if s.hcb.mbOut.length < 16 then .done { s with hcb := { s.hcb with mbOut := s.hcb.mbOut ++ [w] } }
    else s.waitFor t (.mbwr w)) s)

/-- FENCE.LL (Table 5.4). -/
def execFenceLl (t : Thread) (f : FmtR) (s : State) : Next :=
  .next (fence t 0x10 { loads := true, stores := false, io := false } f s)

/-- FENCE.LS (Table 5.4). -/
def execFenceLs (t : Thread) (f : FmtR) (s : State) : Next :=
  .next (fence t 0x11 { loads := true, stores := false, io := false } f s)

/-- FENCE.SL (Table 5.4). -/
def execFenceSl (t : Thread) (f : FmtR) (s : State) : Next :=
  .next (fence t 0x12 { loads := false, stores := true, io := false } f s)

/-- FENCE.SS (Table 5.4). -/
def execFenceSs (t : Thread) (f : FmtR) (s : State) : Next :=
  .next (fence t 0x13 { loads := false, stores := true, io := false } f s)

/-- FENCE.ALL (Table 5.4). -/
def execFenceAll (t : Thread) (f : FmtR) (s : State) : Next :=
  .next (fence t 0x14 { loads := true, stores := true, io := false } f s)

/-- FENCE.IO (Table 5.4, R106). -/
def execFenceIo (t : Thread) (f : FmtR) (s : State) : Next :=
  .next (fence t 0x15 { loads := true, stores := true, io := true } f s)

/-- OTOK (R108, R248). -/
def execOtok (t : Thread) (f : FmtR) (s : State) : Next :=
  .next (sys t 0x16 f { wd := false, wa := false, imm := true } true (fun s =>
    let d := f.imm9.extractLsb' 0 8
    if d = 0 || f.imm9.getLsbD 8 then sysIllegal 0x16 f
    else .done (s.modThread t fun th => { th with wait := .otok d })) s)

/-- TIMER_EXPIRE: the thread's TIMERCMP has been reached, and its WAITEV returns if it waits for TIMER (R60). -/
def timerExpire (t : Thread) (s : State) : State := if s.clocked then s.wakeThread s.seq.sticky t else s

/-- TIMER_EXPIRE. -/
def execTimerExpire (t : Thread) (s : State) : Next := .next (timerExpire t s)

end Sys2Proof.Machine
end

