-- ==== Sys2Proof/Machine/Riffle.lean ====
section
/-! DEFINITION. The Riffle engines: the wheel, the instruction set, queues, starting and stopping (R282 to R310, R423). -/

namespace Sys2Proof.Machine

/-! ### Channels -/

/-- Depth of the TX queue (R293). -/
def RChan.txDepth (c : RChan) : Nat := if c.cfg.join = 0 then 4 else if c.cfg.join = 1 then 8 else 0

/-- Depth of the RX queue (R293). -/
def RChan.rxDepth (c : RChan) : Nat := if c.cfg.join = 0 then 4 else if c.cfg.join = 2 then 8 else 0

/-- The pins of a window, member 0 first (R287). -/
def windowPins (base : BitVec 5) (count : Nat) : List Nat := (List.range count).map fun i => (base.toNat + i) % 32

/-- What a start gives a channel (R285, R308). -/
def RChan.start (c : RChan) : RChan :=
  { c with faulted := false, pc := c.cfg.entry, c0 := 0, c1 := 0, tf := BitVec.allOnes 64, tp := 64, rf := 0, rp := 0,
           turns := none }

/-- What a stop does to a channel's enables (R292); WAITING stays as its last turn left it (Table 11.5). -/
def RChan.stop (c : RChan) : RChan := { c with ens := if c.cfg.stopHold then c.ens else 0, turns := none }

/-- A RIFCHAN's fields in force on a channel of a stopped engine (R292, R303; log 27). -/
def RChan.configure (c : RChan) (k : RCfg) : RChan :=
  let c := { c with cfg := k, faulted := false }
  if k.enable then c else c.stop

/-- A RIFCHAN's fields taking effect on a channel of a running engine (R308). -/
def RChan.reconfigure (c : RChan) (k : RCfg) : RChan :=
  let c := { c with cfg := k, faulted := false }
  if k.enable then c.start else c.stop

/-- Every RIFCHAN that waits taking effect, in the order given (R308). -/
def RChan.takeChanges (c : RChan) : RChan := { c.change.foldl (fun c k => c.reconfigure k) c with change := [] }

/-- The channel's sticky flags with more of them set (Table 11.5). -/
def RChan.flag (c : RChan) (f : BitVec 7) : RChan := { c with flags := c.flags ||| f }

/-! ### Conditions (Table 11.4) -/

/-- A condition code; `none` for a reserved one. -/
def State.cond (s : State) (c : RChan) (e : REng) (balls : BitVec 32) (code : Nat) : Option Bool :=
  match code with
  | 0x00 => some true
  | 0x01 => some (c.c0 == 0)
  | 0x02 => some (c.c1 == 0)
  | 0x03 => some (c.c0 == c.c1)
  | 0x04 => some (balls.getLsbD c.cfg.tpin.toNat)
  | 0x05 => some (c.tp == 64)
  | 0x06 => some (c.rp == 64)
  | 0x07 => some (!c.txq.isEmpty)
  | 0x08 => some (decide (c.rxq.length < c.rxDepth))
  | k =>
    if 0x10 ≤ k && k ≤ 0x17 then some (e.flags.getLsbD (k - 0x10))
    else if 0x20 ≤ k && k ≤ 0x3F then some (balls.getLsbD (k - 0x20))
    else if 0x40 ≤ k && k ≤ 0x53 then some (s.gauge.alarms.getLsbD (k - 0x40))
    else none

/-! ### Frames and windows (R299, R300) -/

/-- The bit of a frame at a position; 1 beyond its end. -/
def frameBit (msb : Bool) (f : BitVec 64) (p : Nat) : Bool :=
  if 64 ≤ p then true else f.getLsbD (if msb then 63 - p else p)

/-- A frame with the bit at a position put in; beyond its end the bit is dropped. -/
def putFrame (msb : Bool) (f : BitVec 64) (p : Nat) (b : Bool) : BitVec 64 :=
  if 64 ≤ p then f else setBit f (if msb then 63 - p else p) b

/-- Members of a window's pins given bits of a value, in a word of pin bits. -/
def putPins (m : BitVec 32) (l : List Nat) (bit : Nat → Bool) : BitVec 32 :=
  (l.zipIdx).foldl (fun m p => setBit m p.1 (bit p.2)) m

/-- EMIT n (R300). -/
def RChan.emit (c : RChan) (en : Bool) (n : Nat) : RChan :=
  let l := windowPins c.cfg.ebase (min n c.cfg.ecount)
  let bit := fun i => frameBit c.cfg.txMsb c.tf (c.tp + i)
  let c := if en then { c with ens := putPins c.ens l bit } else { c with vals := putPins c.vals l bit }
  { c with tp := min 64 (c.tp + n) }

/-- Bit i of the SAMPLE window: 0 at or above SCOUNT. -/
def RChan.sampleBit (c : RChan) (balls : BitVec 32) (i : Nat) : Bool :=
  i < c.cfg.scount && balls.getLsbD ((c.cfg.sbase.toNat + i) % 32)

/-- SAMPLE n (R300). -/
def RChan.sample (c : RChan) (balls : BitVec 32) (n : Nat) : RChan :=
  { c with rf := (List.range n).foldl (fun f i => putFrame c.cfg.rxMsb f (c.rp + i) (c.sampleBit balls i)) c.rf,
           rp := min 64 (c.rp + n) }

/-- The DRIVE window's selected members given their value bits (Table 11.3). -/
def RChan.drive (c : RChan) (en : Bool) (sel val : BitVec 8) : RChan :=
  let upd := fun (m : BitVec 32) => ((windowPins c.cfg.dbase c.cfg.dcount).zipIdx).foldl
    (fun m p => if sel.getLsbD p.2 then setBit m p.1 (val.getLsbD p.2) else m) m
  if en then { c with ens := upd c.ens } else { c with vals := upd c.vals }

/-- The source of XFER (Table 11.4). -/
def RChan.xferSrc (c : RChan) (balls : BitVec 32) (src : Nat) : BitVec 64 :=
  match src with
  | 0 => c.c0.setWidth 64
  | 1 => c.c1.setWidth 64
  | 2 => c.rf
  | 3 => c.tf
  | 4 => (List.range 32).foldl (fun v i => setBit v i (c.sampleBit balls i)) 0
  | 5 => BitVec.ofNat 64 c.rp
  | 6 => BitVec.ofNat 64 c.tp
  | _ => 0

/-- The operation of XFER; truncation to the destination makes it act at the destination width (R299). -/
def xferOp (op : Nat) (v : BitVec 64) : BitVec 64 := if op = 0 then v else if op = 1 then ~~~v else v + 1

/-- The destination of XFER; the PC is that of the next instruction unless it is written (R299). -/
def RChan.xferDst (c : RChan) (dst : Nat) (v : BitVec 64) : RChan :=
  let l := windowPins c.cfg.ebase c.cfg.ecount
  let next := { c with pc := c.pc + 1 }
  match dst with
  | 0 => { next with c0 := v.setWidth 16 }
  | 1 => { next with c1 := v.setWidth 16 }
  | 2 => { next with rf := v, rp := 64 }
  | 3 => { next with tf := v, tp := 0 }
  | 4 => { next with vals := putPins c.vals l v.getLsbD }
  | 5 => { next with ens := putPins c.ens l v.getLsbD }
  | _ => { c with pc := v.setWidth 7 }

/-! ### Queues of a channel (R297, R301) -/

/-- A word as GIVE puts it into the RX queue, with the TRUST of RIFTRUST at that moment (R295, R393, Table 14.4). -/
def State.rxWord (s : State) (valid : Bool) (d : Data) : Word := mkWord (mkTag 7 (BitVec.ofNat 2 (s.lev 6)) valid false) d

/-- The data of GIVE (R301). -/
def RChan.given (c : RChan) (align : Bool) : Data :=
  if align && c.cfg.rxMsb then (if c.rp = 0 then 0 else c.rf >>> (64 - c.rp)) else c.rf

/-- What a turn does: the channel and engine after it, or a repeat, or a fault (R302, R303). -/
inductive Turn
  | done (c : RChan) (e : REng)
  | repeat (c : RChan)
  | fault

/-- TAKE (R297, R301). -/
def RChan.take (c : RChan) (e : REng) (stall : Bool) : Turn :=
  match c.txq with
  | w :: r => .done { c with tf := dataOf w, tp := 0, txq := r, pc := c.pc + 1 } e
  | [] =>
    if stall then .repeat c
    else .done { c.flag 0x01 with tf := BitVec.allOnes 64, tp := 0, pc := c.pc + 1 } e

/-- GIVE of a word (R297, R301); `keep` under STAMP. -/
def RChan.give (c : RChan) (e : REng) (stall keep : Bool) (w : Word) : Turn :=
  let after := fun (c : RChan) =>
    if keep then { c with pc := c.pc + 1 } else { c with rf := 0, rp := 0, pc := c.pc + 1 }
  if c.rxq.length < c.rxDepth then .done (after { c with rxq := c.rxq ++ [w] }) e
  else if stall then .repeat c
  else .done (after (c.flag 0x02)) e

/-! ### One turn (Table 11.3) -/

/-- Bits [hi:lo] of an instruction as a number. -/
def insnBits (w : BitVec 32) (lo n : Nat) : Nat := (w.extractLsb' lo n).toNat

/-- BR and AWAIT (R302). -/
def State.turnCond (s : State) (c : RChan) (e : REng) (balls : BitVec 32) (w : BitVec 32) (await_ : Bool) : Turn :=
  let code := insnBits w 21 7
  let neg := w.getLsbD 20
  let take := await_ && w.getLsbD 19
  let flagCode := 0x10 ≤ code && code ≤ 0x17
  if (neg && code == 0) || (take && (neg || !flagCode)) ||
      (if await_ then insnBits w 0 19 != 0 else insnBits w 7 13 != 0) then .fault
  else match s.cond c e balls code with
    | none => .fault
    | some v =>
      let met := v != neg
      if await_ then
        if met then .done { c with pc := c.pc + 1 } (if take then { e with flags := setBit e.flags (code - 0x10) false } else e)
        else .repeat c
      else .done { c with pc := if met then w.extractLsb' 0 7 else c.pc + 1 } e

/-- LOOP: decrement, then test. -/
def RChan.loop (c : RChan) (e : REng) (second : Bool) (target : BitVec 7) : Turn :=
  let v := (if second then c.c1 else c.c0) - 1
  let c := if second then { c with c1 := v } else { c with c0 := v }
  .done { c with pc := if v = 0 then c.pc + 1 else target } e

/-- PAUSE: N + 1 turns (R302). -/
def RChan.pause (c : RChan) (e : REng) (n : Nat) : Turn :=
  match c.turns.getD n with
  | 0 => .done { c with pc := c.pc + 1 } e
  | k + 1 => .repeat { c with turns := some k }

/-- The turn of a channel with instruction `w` (Table 11.3, R303). -/
def State.turn (s : State) (c : RChan) (e : REng) (balls : BitVec 32) (w : BitVec 32) : Turn :=
  let count := insnBits w 0 7
  let next := fun (c : RChan) => Turn.done { c with pc := c.pc + 1 } e
  match insnBits w 28 4 with
  | 0x1 => s.turnCond c e balls w false
  | 0x2 => s.turnCond c e balls w true
  | 0x3 => if insnBits w 7 20 != 0 then .fault else c.loop e (w.getLsbD 27) (w.extractLsb' 0 7)
  | 0x4 =>
    if insnBits w 16 11 != 0 then .fault
    else if w.getLsbD 27 then next { c with c1 := w.extractLsb' 0 16 } else next { c with c0 := w.extractLsb' 0 16 }
  | 0x5 => if insnBits w 7 20 != 0 || count = 0 || 64 < count then .fault else next (c.emit (w.getLsbD 27) count)
  | 0x6 => if insnBits w 7 21 != 0 || count = 0 || 64 < count then .fault else next (c.sample balls count)
  | 0x7 => if insnBits w 0 27 != 0 then .fault else c.take e (w.getLsbD 27)
  | 0x8 =>
    let align := w.getLsbD 26
    let stamp := w.getLsbD 25
    if insnBits w 0 25 != 0 || (align && stamp) then .fault
    else c.give e (w.getLsbD 27) stamp
      (if stamp then s.rxWord (!s.timeFenced) s.time.now else s.rxWord true (c.given align))
  | 0x9 =>
    let dst := insnBits w 25 3
    let op := insnBits w 20 2
    if insnBits w 0 20 != 0 || dst = 7 || op = 3 then .fault
    else .done (c.xferDst dst (xferOp op (c.xferSrc balls (insnBits w 22 3)))) e
  | 0xA =>
    if insnBits w 16 11 != 0 then .fault
    else next (c.drive (w.getLsbD 27) (w.extractLsb' 8 8) (w.extractLsb' 0 8))
  | 0xB =>
    if insnBits w 3 23 != 0 || w.getLsbD 27 then .fault
    else .done { c with pc := c.pc + 1 } { e with flags := setBit e.flags (insnBits w 0 3) (!w.getLsbD 26) }
  | 0xC => if insnBits w 8 20 != 0 then .fault else c.pause e (insnBits w 0 8)
  | _ => .fault

/-- A channel after its turn (R302, R303). -/
def RChan.after (c : RChan) : Turn → RChan
  | .done c' _ => { c' with turns := none, waiting := false }
  | .repeat c' => { c' with waiting := true }
  | .fault => { (c.flag 0x40).stop with faulted := true, waiting := false }

/-- An engine after a channel's turn. -/
def REng.after (e : REng) : Turn → REng
  | .done _ e' => e'
  | _ => e

/-- The four engines. -/
def allEng : List EngNo := [0, 1, 2, 3]

/-- The channel number within its engine (R282). -/
def slotOf (g : ChanNo) : Nat := g.val % 16

/-- The first engine cycle at or after `k` that serves a slot of the wheel (R284). -/
def nextSlot (wheel k slot : Nat) : Nat := k + (slot + wheel - k % wheel) % wheel

/-- The engine cycle of a channel's next slot. -/
def State.slotCycle (s : State) (g : ChanNo) : Nat := nextSlot s.engines[engOf g].wheel s.engines[engOf g].next (slotOf g)

/-- Whether something happens in a channel's next slot (R284, R308): its slot is on the wheel, and it has a turn there or a RIFCHAN to
take effect first. -/
def State.usesSlot (s : State) (g : ChanNo) : Bool :=
  decide (slotOf g < s.engines[engOf g].wheel) && ((s.chans[g].cfg.enable && !s.chans[g].faulted) || !s.chans[g].change.isEmpty)

/-- The channels of an engine. -/
def engChans (e : EngNo) : List ChanNo := (List.range 16).map (chanNo e)

/-- Whether a channel's slot is the next at which anything happens: slots that pass before it pass with no effect (R284). -/
def State.slotDue (s : State) (g : ChanNo) : Bool :=
  s.engines[engOf g].running && s.usesSlot g && (engChans (engOf g)).all fun h => !s.usesSlot h || decide (s.slotCycle g ≤ s.slotCycle h)

/-- Whether a channel has the next turn of its engine, with the store word `w` (R284): its slot is due, it is enabled, not faulted, has
no RIFCHAN to take effect first, and its PC names `w`. -/
def State.hasTurn (s : State) (g : ChanNo) (w : BitVec 32) : Bool :=
  let c := s.chans[g]
  s.slotDue g && c.cfg.enable && !c.faulted && c.change.isEmpty &&
    s.engines[engOf g].store[c.pc.toNat]'(by have := c.pc.isLt; omega) == w

/-- An engine that has come to the end of engine cycle `k` (R283). -/
def REng.ranTo (e : REng) (k : Nat) : REng := { e with next := k + 1, cycles := e.cycles + BitVec.ofNat 48 (k + 1 - e.next) }

/-- A channel's turn with the store word `w` in its slot, and what it does at the pins (R284, R289); as the engine cycle starts, the
mirror shows what has happened before it (R423). -/
def State.riffle (s : State) (g : ChanNo) (w : BitVec 32) (balls : BitVec 32) : State :=
  if s.clocked && s.hasTurn g w then
    let e := s.engines[engOf g].ranTo (s.slotCycle g)
    let s := s.refreshMirror (engOf g)
    let t := s.turn s.chans[g] e (s.ballsRead balls) w
    let s' := (s.modEng (engOf g) fun _ => e.after t).modChan g fun c => c.after t
    (match t with
      | .fault => State.drivesChanged s s'
      | _ => State.driveChanged s g s').wake
  else s

/-- A row's instruction: opcode and bits [27:0]. -/
def riffleOp (op : BitVec 4) (g : ChanNo) (f : BitVec 28) (balls : BitVec 32) (s : State) : State := s.riffle g (op ++ f) balls

/-! ### Starting, stopping, configuring -/

/-- The level of the TX queue as the mirror shows it (R423). -/
def State.txLevel (s : State) (g : ChanNo) : Nat := s.mirror[g].tx

/-- One queue operation taking effect (R296). -/
def State.applyQueueOp (s : State) : QueueOp → State
  | .push g w => s.modChan g fun c => if c.txq.length < c.txDepth then { c with txq := c.txq ++ [w] } else c
  | .pop g => s.modChan g fun c => { c with rxq := c.rxq.tail }

/-- The queue operations on their way to an engine have arrived by its engine cycle 0, which RIFSTART follows them to (R419, R423). -/
def State.applyOps (s : State) (e : EngNo) : State :=
  s.engines[e].ops.foldl State.applyQueueOp (s.modEng e fun x => { x with ops := [] })

/-- RIFSTART (R283, R285, R310). -/
def State.rifStart (s : State) (e : EngNo) : State :=
  if s.engines[e].running then s
  else
    let s := (s.applyOps e).modEng e fun x =>
      { x with running := true, divider := 256 * s.fld .riffle e.val 0 + s.fld .riffle e.val 1, wheel := s.fld .riffle e.val 2,
               next := 0 }
    (((engChans e).foldl (fun s g => s.modChan g fun c => if c.cfg.enable then c.start else c) s).refreshMirror e).wake

/-- A channel stopped with its engine: RIFCHANs that have not taken effect do so (R292; log 27). -/
def RChan.halt (c : RChan) : RChan := { c.change.foldl (fun c k => c.configure k) c.stop with change := [] }

/-- RIFSTOP (R285, R292). -/
def State.rifStop (s : State) (e : EngNo) : State :=
  if s.engines[e].running then
    let s' := (engChans e).foldl (fun s g => s.modChan g RChan.halt) (s.modEng e fun x => { x with running := false })
    ((State.drivesChanged s s').refreshMirror e).wake
  else s

/-- An engine at the start of an engine cycle. -/
def REng.startAt (e : REng) (k : Nat) : REng := { e with next := k, cycles := e.cycles + BitVec.ofNat 48 (k - e.next) }

/-- RIFCHAN_TAKE_EFFECT: at the start of the channel's next slot (R308). -/
def rifchanTakeEffect (g : ChanNo) (s : State) : State :=
  if s.clocked && s.slotDue g && !s.chans[g].change.isEmpty then
    let s := s.refreshMirror (engOf g)
    let s' := (s.modEng (engOf g) fun e => e.startAt (s.slotCycle g)).modChan g RChan.takeChanges
    (State.drivesChanged s s').wake
  else s

/-! ### The CP0 mirror (R294 to R296, R423) -/

/-- MIRROR_OP_APPLY: an engine cycle starts, and the oldest queue operation that has reached the engine takes effect (R423). -/
def mirrorOpApply (e : EngNo) (s : State) : State :=
  match s.engines[e].ops with
  | [] => s
  | o :: r =>
    if s.clocked && s.engines[e].running then
      (((s.refreshMirror e).modEng e fun x => { x with ops := r }).applyQueueOp o).wake
    else s

/-- RIFFLE_ILLEGAL: a turn that faults (R303). -/
def riffleIllegal (g : ChanNo) (w : BitVec 32) (s : State) : State :=
  match s.turn s.chans[g] s.engines[engOf g] 0 w with
  | .fault => s.riffle g w 0
  | _ => s

/-! ### Meanings -/

/-- BR (Table 11.3). -/
def execBr (g : ChanNo) (f : BitVec 28) (balls : BitVec 32) (s : State) : Next := .next (riffleOp 0x1 g f balls s)

/-- AWAIT (Table 11.3, R302). -/
def execAwait (g : ChanNo) (f : BitVec 28) (balls : BitVec 32) (s : State) : Next := .next (riffleOp 0x2 g f balls s)

/-- LOOP (Table 11.3). -/
def execLoop (g : ChanNo) (f : BitVec 28) (balls : BitVec 32) (s : State) : Next := .next (riffleOp 0x3 g f balls s)

/-- LDC (Table 11.3). -/
def execLdc (g : ChanNo) (f : BitVec 28) (balls : BitVec 32) (s : State) : Next := .next (riffleOp 0x4 g f balls s)

/-- EMIT (R300). -/
def execEmit (g : ChanNo) (f : BitVec 28) (balls : BitVec 32) (s : State) : Next := .next (riffleOp 0x5 g f balls s)

/-- SAMPLE (R300). -/
def execSample (g : ChanNo) (f : BitVec 28) (balls : BitVec 32) (s : State) : Next := .next (riffleOp 0x6 g f balls s)

/-- TAKE (R301). -/
def execTake (g : ChanNo) (f : BitVec 28) (balls : BitVec 32) (s : State) : Next := .next (riffleOp 0x7 g f balls s)

/-- GIVE with STAMP = 0 (R301). -/
def execGive (g : ChanNo) (f : BitVec 28) (balls : BitVec 32) (s : State) : Next := .next (riffleOp 0x8 g f balls s)

/-- GIVE with STAMP = 1 (R301). -/
def execGiveStamp (g : ChanNo) (f : BitVec 28) (balls : BitVec 32) (s : State) : Next := .next (riffleOp 0x8 g f balls s)

/-- XFER (R299). -/
def execXfer (g : ChanNo) (f : BitVec 28) (balls : BitVec 32) (s : State) : Next := .next (riffleOp 0x9 g f balls s)

/-- DRIVE VAL (Table 11.3). -/
def execDriveVal (g : ChanNo) (f : BitVec 28) (balls : BitVec 32) (s : State) : Next := .next (riffleOp 0xA g f balls s)

/-- DRIVE EN (Table 11.3). -/
def execDriveEn (g : ChanNo) (f : BitVec 28) (balls : BitVec 32) (s : State) : Next := .next (riffleOp 0xA g f balls s)

/-- SIG raise (Table 11.3). -/
def execSigRaise (g : ChanNo) (f : BitVec 28) (balls : BitVec 32) (s : State) : Next := .next (riffleOp 0xB g f balls s)

/-- SIG lower (Table 11.3). -/
def execSigLower (g : ChanNo) (f : BitVec 28) (balls : BitVec 32) (s : State) : Next := .next (riffleOp 0xB g f balls s)

/-- PAUSE (R302). -/
def execPause (g : ChanNo) (f : BitVec 28) (balls : BitVec 32) (s : State) : Next := .next (riffleOp 0xC g f balls s)

/-- RIFFLE_ILLEGAL (R303). -/
def execRiffleIllegal (g : ChanNo) (w : BitVec 32) (s : State) : Next := .next (riffleIllegal g w s)

/-- MIRROR_OP_APPLY (R423). -/
def execMirrorOpApply (e : EngNo) (s : State) : Next := .next (mirrorOpApply e s)

/-- RIFCHAN_TAKE_EFFECT (R308). -/
def execRifchanTakeEffect (g : ChanNo) (s : State) : Next := .next (rifchanTakeEffect g s)

end Sys2Proof.Machine
end

