-- ==== Sys2Proof/Machine/Coproc.lean ====
section
/-! DEFINITION. Coprocessor instructions: dispatch, completion, CP0, CP1, CP3 and the PURE instructions of CP2 (Tables 3.11,
4.3, 4.4, 10.5; R65, R88 to R95, R278, R294, R295, R304, R450, R451). -/

namespace Sys2Proof.Machine

/-! ### Units -/

/-- The place of a unit among the counters of Table 4.5. -/
def unitIdx : CpUnit → Fin 7
  | .cp0 => 0 | .cp1 => 1 | .hash => 2 | .ec => 3 | .aes => 4 | .rng => 5 | .cp3 => 6

/-- The coprocessor number of a unit (Table 3.17, CP_FAULT). -/
def unitCp : CpUnit → Nat
  | .cp0 => 0 | .cp1 => 1 | .hash => 2 | .ec => 2 | .aes => 2 | .rng => 2 | .cp3 => 3

/-- The opcode of a unit's instructions. -/
def unitOpcode (u : CpUnit) : BitVec 6 := BitVec.ofNat 6 (0x30 + unitCp u)

/-- Whether a unit can take one more operation: CP1 while a shadow slot is free, another while it runs none (Table 4.3, R93). -/
def State.unitFree (s : State) (u : CpUnit) : Bool :=
  if u = .cp1 then decide ((s.seq.ops.filter fun o => o.unit = u && o.shadow).length < 2)
  else !(s.seq.ops.any fun o => o.unit = u)

/-! ### Dispatch -/

/-- What an operation leaves to its completion. -/
structure CpResult where
  results : List Word
  writes : List StorePart
  reads : List Nat

/-- What a unit decides at dispatch (R91). -/
inductive CpOut
  | go (s : State) (r : CpResult)
  | fault (code : BitVec 8)
  | stall (s : State)

/-- Results alone. -/
def CpOut.word (s : State) (w : Word) : CpOut := .go s { results := [w], writes := [], reads := [] }

/-- An operation without a result. -/
def CpOut.plain (s : State) : CpOut := .go s { results := [], writes := [], reads := [] }

/-- An operation started: the registers wait for its results, and the unit has served the thread last (R89). -/
def State.startOp (s : State) (t : Thread) (u : CpUnit) (effect : Bool) (wds : List Reg) (latency : Nat) (r : CpResult) :
    State :=
  let id := s.nextId
  let s := (s.fresh 8).awaitAll t id wds
  let o : CpOp :=
    { id := id, thread := t, unit := u, effect := effect, shadow := false, results := r.results, writes := r.writes,
      reads := r.reads, latency := latency }
  { s with seq := { s.seq with ops := s.seq.ops ++ [o], served := s.seq.served.set (unitIdx u) t } }

/-- A coprocessor instruction: its function code, unit, class, the registers it reads and writes, its latency, its fields, whether
its form is illegal, and what its unit decides at dispatch (R91). -/
structure CpInsn where
  cf : BitVec 7
  unit : CpUnit
  effect : Bool
  srcs : List Reg
  wds : List Reg
  latency : State → Nat
  fmt : FmtC
  illegal : Bool
  act : State → CpOut

/-- The encoding of a coprocessor instruction. -/
def CpInsn.enc (i : CpInsn) : BitVec 36 := encC (unitOpcode i.unit) i.cf i.fmt

/-- An operation that its unit does not take yet: an EFFECT one waits at CM, a PURE one in the queue (R89, R90). -/
def CpInsn.waits (t : Thread) (i : CpInsn) (s : State) : Issued :=
  if i.effect then .stall s
  else .entry ((s.fresh 8).awaitAll t s.nextId i.wds) s.nextId .want ((s.thr t).ia + 1)

/-- XINFO of CP_FAULT (Table 3.17). -/
def cpFaultInfo (u : CpUnit) (code : BitVec 8) : BitVec 64 := BitVec.ofNat 64 (unitCp u + 2 ^ 8 * code.toNat)

/-- A coprocessor instruction where its unit can take it (R89 to R91, R450): an EFFECT operation starts at its commit, a PURE one
is uncommitted until it completes (log 21). A fault is raised at commit. -/
def CpInsn.start (t : Thread) (i : CpInsn) (s : State) : Issued :=
  if i.illegal then .except xIllegal (i.enc.setWidth 64)
  else if !s.unitFree i.unit then i.waits t s
  else match i.act s with
    | .stall s' => i.waits t s'
    | .fault code => .except xCpFault (cpFaultInfo i.unit code)
    | .go s' r =>
      let n := s'.startOp t i.unit i.effect i.wds (i.latency s) r
      if i.effect then .done n else .entry n s'.nextId (.pure s'.nextId) ((s.thr t).ia + 1)

/-- A coprocessor instruction at issue (R88). -/
def coprocessor (t : Thread) (i : CpInsn) (s : State) : State := s.issue t i.enc i.srcs i.effect (i.start t)

/-! ### Completion (R89, R91 to R95) -/

/-- What an operation's reads of the Reservoir count, and its writes (R27, R451). -/
def CpOp.perform (o : CpOp) (s : State) : State :=
  o.writes.foldl State.unitStore (o.reads.foldl State.unitRead s)

/-- A started PURE operation has completed, and its instruction has nothing left to do (log 21). -/
def CqEntry.completed (op : Nat) (e : CqEntry) : CqEntry := if e.what == .pure op then { e with what := .done } else e

/-- An operation completed: results delivered. -/
def State.finishOp (s : State) (o : CpOp) : State :=
  let s := { s with seq := { s.seq with ops := s.seq.ops.filter fun x => x.id != o.id } }
  let s := (o.results.zipIdx).foldl (fun s p => s.deliverTo o.thread (o.id + p.2) p.1) (o.perform s)
  s.modThread o.thread fun th => { th with cq := th.cq.map (CqEntry.completed o.id) }

/-- The unit's oldest operation that is not squashed and waits for nothing completes. -/
def State.completeOp (s : State) (u : CpUnit) : State :=
  match s.seq.ops.find? fun o => o.unit = u && !o.shadow && !(s.seq.jwaits.any fun w => w.id = o.id) with
  | some o => s.finishOp o
  | none => s

/-- A squashed operation completes into its shadow slot (R93, Table 4.5). -/
def State.completeShadow (s : State) (u : CpUnit) : State :=
  match s.seq.ops.find? fun o => o.unit = u && o.shadow with
  | none => s
  | some o =>
    { s with seq := { s.seq with
        ops := s.seq.ops.filter fun x => x.id != o.id,
        shadow := vmod s.seq.shadow (unitIdx u) (· + 1),
        shadowBusy := vmod s.seq.shadowBusy (unitIdx u) (· + BitVec.ofNat 48 o.latency) } }

/-! ### CP0: Riffle control -/

/-- A CP0 instruction; every one is EFFECT. -/
def cp0Insn (cf : BitVec 7) (srcs wds : List Reg) (latency : State → Nat) (f : FmtC) (illegal : Bool) (act : State → CpOut) :
    CpInsn :=
  { cf := cf, unit := .cp0, effect := true, srcs := srcs, wds := wds, latency := latency, fmt := f, illegal := illegal,
    act := act }

/-- Engine WA[1:0]. -/
def engineOf (w : Word) : EngNo := Fin.ofNat 4 (dataOf w).toNat

/-- Channel WA[5:0]. -/
def channelOf (w : Word) : ChanNo := Fin.ofNat 64 (dataOf w).toNat

/-- 3 engine cycles and 12 ns, in ns (Table 4.4). -/
def State.startLatency (s : State) (e : EngNo) : Nat :=
  12 + (3 * 2 * (256 * s.fld .riffle e.val 0 + s.fld .riffle e.val 1) + 255) / 256

/-- RIFSTART and RIFSTOP: WD, WB and IMM8 are 0 (R450). -/
def rifControl (t : Thread) (cf : BitVec 7) (act : State → EngNo → State) (f : FmtC) : CpInsn :=
  cp0Insn cf [f.wa] [] (fun s => s.startLatency (engineOf (s.reg t f.wa))) f (f.wd != 0 || f.wb != 0 || f.imm8 != 0)
    (fun s => .plain (act s (engineOf (s.reg t f.wa))))

/-- Whether Levee admits a word to a channel's pins (R370). -/
def State.pinAdmits (s : State) (w : Word) : Bool :=
  decide (s.lev (key 1 0) ≤ (tagTrust (tagOf w)).toNat) && !(s.lev (key 1 1)).testBit (tagOrigin (tagOf w)).toNat

/-- RIFPUSH (R294, R423; log 28). -/
def State.rifPush (s : State) (g : ChanNo) (w : Word) : CpOut :=
  let tagrej := fun (s : State) => (s.showFlags g (· ||| 0x20)).wake
  if !isGood w then .word (tagrej s) (constWord 0)
  else if !s.pinAdmits w then .word (tagrej (s.bumpLev 10)) (constWord 0)
  else if s.chans[g].txDepth ≤ s.txLevel g then .word s (constWord 0)
  else
    .word ((s.modEng (engOf g) fun e => { e with ops := e.ops ++ [.push g w] }).modMirror g fun m => { m with tx := m.tx + 1 })
      (constWord 1)

/-- RIFPOP (R295, R423). -/
def State.rifPop (s : State) (g : ChanNo) : CpOut :=
  match s.rxMirror g with
  | [] => .word s emptyWord
  | w :: r =>
    .word (((s.modEng (engOf g) fun e => { e with ops := e.ops ++ [.pop g] }).modMirror g fun m => { m with rx := r }).wake) w

/-- A bit of a status word. -/
def bitAt (b : Bool) (i : Nat) : Nat := if b then 2 ^ i else 0

/-- RIFSTAT channel word (Table 11.5): levels of the queues, flags and PC as the mirror shows them (R423). -/
def State.channelWord (s : State) (g : ChanNo) : Data :=
  let c := s.chans[g]
  let rx := (s.rxMirror g).length
  BitVec.ofNat 64
    (s.mirror[g].flags.toNat + bitAt (c.cfg.enable && !c.faulted && s.engines[engOf g].running) 8 + bitAt (rx != 0) 9 +
      bitAt (decide (s.txLevel g < c.txDepth)) 10 + bitAt c.waiting 11 + 2 ^ 12 * (s.txLevel g % 16) + 2 ^ 16 * (rx % 16) +
      2 ^ 20 * s.mirror[g].pc.toNat)

/-- A mask of an engine's channels. -/
def engMask (e : EngNo) (p : ChanNo → Bool) : Nat := ((List.range 16).map fun c => bitAt (p (chanNo e c)) c).foldl (· + ·) 0

/-- RIFSTAT engine word (Table 11.6). -/
def State.engineWord (s : State) (e : EngNo) : Data :=
  BitVec.ofNat 64
    (s.engines[e].flags.toNat + bitAt s.engines[e].running 8 +
      2 ^ 16 * engMask e (fun g => s.mirror[g].flags.getLsbD 6) + 2 ^ 32 * engMask e s.attention)

/-- RIFSTAT by WA[6] (R304). -/
def rifStat (t : Thread) (f : FmtC) : CpInsn :=
  cp0Insn 0x05 [f.wa] [f.wd] (fun _ => 4) f (f.wb != 0 || f.imm8 != 0) (fun s =>
    let w := s.reg t f.wa
    .word s (constWord (if (dataOf w).getLsbD 6 then s.engineWord (engineOf w) else s.channelWord (channelOf w))))

/-- The clear of RIFCLR (R304); a contention that lasts sets its flags again (R290, R305). -/
def State.rifClr (s : State) (w : Word) (m : Data) : State :=
  let s :=
    if (dataOf w).getLsbD 6 then s.modEng (engineOf w) fun e => { e with flags := e.flags &&& ~~~(m.extractLsb' 0 8) }
    else s.showFlags (channelOf w) (· &&& ~~~(m.extractLsb' 0 7))
  s.contend.wake

/-- RIFCLR by WA[6] (R304). -/
def rifClear (t : Thread) (f : FmtC) : CpInsn :=
  cp0Insn 0x06 [f.wa, f.wb] [] (fun _ => 4) f (f.wd != 0 || f.imm8 != 0)
    (fun s => .plain (s.rifClr (s.reg t f.wa) (dataOf (s.reg t f.wb))))

/-- RIFPUSH. -/
def rifPushInsn (t : Thread) (f : FmtC) : CpInsn :=
  cp0Insn 0x03 [f.wa, f.wb] [f.wd] (fun _ => 4) f (f.imm8 != 0) (fun s => s.rifPush (channelOf (s.reg t f.wa)) (s.reg t f.wb))

/-- RIFPOP. -/
def rifPopInsn (t : Thread) (f : FmtC) : CpInsn :=
  cp0Insn 0x04 [f.wa] [f.wd] (fun _ => 4) f (f.wb != 0 || f.imm8 != 0) (fun s => s.rifPop (channelOf (s.reg t f.wa)))

/-! ### CP1: CRC and checksums -/

/-- Bytes 0 to n - 1 of a word. -/
def lowBytes (d : Data) (n : Nat) : List Byte := (List.range n).map (byteOf d)

/-- A CP1 instruction: IMM8 is 1 to 8 (text under Table 3.11). -/
def checksum (t : Thread) (cf : BitVec 7) (even : Bool) (fn : FmtC → Data → Data → Data) (f : FmtC) : CpInsn :=
  { cf := cf, unit := .cp1, effect := false, srcs := [f.wa, f.wb], wds := [f.wd], latency := fun _ => 2, fmt := f,
    illegal := f.imm8 = 0 || decide (8 < f.imm8.toNat) || (even && f.imm8.getLsbD 0),
    act := fun s =>
      let a := s.reg t f.wa
      let b := s.reg t f.wb
      .word s (mkWord (mergeTag (tagOf a) (tagOf b)) (fn f (dataOf a) (dataOf b))) }

/-- CRC32C. -/
def crc32cInsn (t : Thread) (f : FmtC) : CpInsn :=
  checksum t 0x01 false (fun f a b => (crc32c (a.setWidth 32) (lowBytes b f.imm8.toNat)).setWidth 64) f

/-- CRC16. -/
def crc16Insn (t : Thread) (f : FmtC) : CpInsn :=
  checksum t 0x02 false (fun f a b => (crc16 (a.setWidth 16) (lowBytes b f.imm8.toNat)).setWidth 64) f

/-- CRC8. -/
def crc8Insn (t : Thread) (f : FmtC) : CpInsn :=
  checksum t 0x03 false (fun f a b => (crc8 (a.setWidth 8) (lowBytes b f.imm8.toNat)).setWidth 64) f

/-- CSUM16. -/
def csum16Insn (t : Thread) (f : FmtC) : CpInsn :=
  checksum t 0x04 true (fun f a b =>
    (csum16 (a.setWidth 16) ((List.range (f.imm8.toNat / 2)).map fun i => b.extractLsb' (16 * i) 16)).setWidth 64) f

/-! ### Reading the Reservoir -/

/-- Bytes of the Reservoir as a unit reads them. -/
def State.unitBytes (s : State) (a n : Nat) : List Byte :=
  (List.range n).map fun i => byteOf (dataOf (s.res.deliver ((a + i) / 8))) ((a + i) % 8)

/-- The tags of the words that a byte range touches. -/
def State.unitTags (s : State) (a n : Nat) : List Byte := (spanned a n).map fun w => tagOf (s.res.deliver w)

/-- The faults that a range of the Reservoir gives an operation (R91, R373): alignment, range, attribute, in this order, which
R373 gives keyed instructions and no rule gives ECVERIFY and HASH384 (DESIGN CHOICE there, log 91). -/
def State.rangeFault (s : State) (a n : Nat) (aligned : Bool) : Option (BitVec 8) :=
  if n = 0 then none
  else if aligned && a % 8 != 0 then some 0x04
  else if resBytes < a + n then some 0x02
  else if s.touchesExec a n then some 0x03
  else none

/-- The thread's entries overlapping any of some ranges start to drain; `none` when there is none (R113, R451). -/
def State.drainFirst (s : State) (t : Thread) (l : List (Nat × Nat)) : Option State :=
  if l.any fun r => s.overlaps t r.1 r.2 then some (l.foldl (fun s r => if s.overlaps t r.1 r.2 then s.drainRange t r.1 r.2 else s) s)
  else none

/-! ### CP2: HASH384 and ECVERIFY -/

/-- The words of a digest: byte 8k + i in bits [8i+7:8i] of word k (Table 3.11). -/
def digestWords (tag : Byte) (d : List Byte) : List Word :=
  (List.range 6).map fun k => mkWord tag (ofBytes fun i => d.getD (8 * k + i) 0)

/-- Whether HASH384 or ECVERIFY has to wait before it reads a range: for an older unresolved branch (R90), or an older access of
the thread to words of the range (R98). -/
def State.readWaits (s : State) (t : Thread) (a n : Nat) : Bool :=
  !(s.thr t).branches.isEmpty || olderAccess (s.thr t).cq (a, n)

/-- HASH384 at dispatch (Table 3.11, R65, R90, R91, R98, R113). -/
def State.hash384 (s : State) (t : Thread) (a n : Nat) : CpOut :=
  if 65536 < n then .fault 0x01
  else match s.rangeFault a n false with
    | some c => .fault c
    | none =>
      if s.readWaits t a n then .stall s
      else match s.drainFirst t [(a, n)] with
        | some s => .stall s
        | none =>
          .go s { results := digestWords (mergeTags (s.unitTags a n)) (sha384 (s.unitBytes a n)), writes := [],
                  reads := spanned a n }

/-- HASH384. -/
def hash384Insn (t : Thread) (f : FmtC) : CpInsn :=
  { cf := 0x01, unit := .hash, effect := false, srcs := [f.wa, f.wb], wds := digestRegs f.wd,
    latency := fun s => 20 + 88 * (((dataOf (s.reg t f.wb)).toNat + 17 + 127) / 128), fmt := f,
    illegal := f.imm8 != 0 || decide (26 < f.wd.val),
    act := fun s => s.hash384 t (dataOf (s.reg t f.wa)).toNat (dataOf (s.reg t f.wb)).toNat }

/-- The five 48-byte numbers of an ECVERIFY block. -/
def blockNumber (l : List Byte) (k : Nat) : Nat := beNat ((l.drop (48 * k)).take 48)

/-- ECVERIFY at dispatch (Table 3.11, R65, R90, R91, R98, R113). -/
def State.ecverify (s : State) (t : Thread) (a : Nat) : CpOut :=
  match s.rangeFault a 240 true with
  | some c => .fault c
  | none =>
    if s.readWaits t a 240 then .stall s
    else match s.drainFirst t [(a, 240)] with
      | some s => .stall s
      | none =>
        let l := s.unitBytes a 240
        let ok := ecdsaVerify (blockNumber l 0) (blockNumber l 1) (blockNumber l 2) (blockNumber l 3) (blockNumber l 4)
        .go s { results := [mkWord (mergeTags (s.unitTags a 240)) (flag ok)], writes := [], reads := spanned a 240 }

/-- ECVERIFY. -/
def ecverifyInsn (t : Thread) (f : FmtC) : CpInsn :=
  { cf := 0x02, unit := .ec, effect := false, srcs := [f.wa], wds := [f.wd], latency := fun _ => 420000, fmt := f,
    illegal := f.imm8 != 0 || f.wb != 0, act := fun s => s.ecverify t (dataOf (s.reg t f.wa)).toNat }

/-! ### CP3: the journal (Table 10.5) -/

/-- Port WA[1:0]. -/
def portOf (w : Word) : PbNo := Fin.ofNat 4 (dataOf w).toNat

/-- Whether a form that names a port has nothing to act on (R278). -/
def State.cp3Void (s : State) (n : PbNo) : Bool := !s.hasPb n.val || !s.journalOn

/-- The code of an entry's state in JSTAT. -/
def JEntry.code (e : JEntry) : Nat :=
  match e.state with
  | .recorded => 1
  | .running => 2
  | .final => 3

/-- JSTAT by WA[3:2] (R278). -/
def State.jstat (s : State) (a b : Word) : CpOut :=
  let n := portOf a
  let form := ((dataOf a).extractLsb' 2 2).toNat
  if form = 1 then
    match s.journal.attention with
    | [] => .word s emptyWord
    | x :: r =>
      .word { s with journal := { s.journal with attention := r } }
        (constWord (BitVec.ofNat 64 (x.jsn % 2 ^ 48 + 2 ^ 48 * x.jout.toNat + 2 ^ 52 * x.port.val)))
  else if form = 3 || s.cp3Void n then .word s (constWord 0)
  else if form = 0 then
    .word s (constWord (BitVec.ofNat 64 ((s.jsnsOf n fun e => e.state != .final).length +
      2 ^ 24 * s.journal.attention.length + 2 ^ 32 * s.freeLines)))
  else match s.entry n ((dataOf b).extractLsb' 0 48).toNat with
    | none => .word s (constWord 0)
    | some e => .word s (constWord (BitVec.ofNat 64 (e.code + 2 ^ 4 * e.jout.toNat + 2 ^ 8 * e.wseq.toNat)))

/-- A wait for the entries of a port recorded so far (R278): none where nothing holds it up or the limit is 0. -/
def State.syncWait (s : State) (t : Thread) (n : PbNo) (limit : Nat) : State × Word :=
  let held := (s.jsnsOf n fun _ => true).filter fun j => s.holdsSync n j
  let w : JWait := { id := s.nextId, thread := t, port := n, jsns := held }
  if held.isEmpty || limit = 0 then (s, constWord (BitVec.ofNat 64 (s.notFinal w)))
  else ({ s with seq := { s.seq with jwaits := s.seq.jwaits ++ [w] } }, constWord 0)

/-- JSYNC, and JDRAIN's wait (R278); `nextId` is the number that the operation is about to take. -/
def State.jsync (s : State) (t : Thread) (a b : Word) : CpOut :=
  let n := portOf a
  if s.cp3Void n then .word s (constWord 0)
  else
    let r := s.syncWait t n ((dataOf b).extractLsb' 0 20).toNat
    .word r.1 r.2

/-- JDRAIN by WA[2] (R278). -/
def State.jdrain (s : State) (t : Thread) (a b : Word) : CpOut :=
  let n := portOf a
  if s.cp3Void n then .word s (constWord 0)
  else if (dataOf a).getLsbD 2 then .word (s.modPb n fun p => { p with jclosed := false }) (constWord 0)
  else (s.modPb n fun p => { p with jclosed := true }).jsync t a b

/-- JPOISON (R272, R278). -/
def State.jpoison (s : State) (a b : Word) : CpOut :=
  let n := portOf a
  let jsn := ((dataOf b).extractLsb' 0 48).toNat
  if s.cp3Void n then .word s (constWord 0)
  else match s.entry n jsn with
    | none => .word s (constWord 0)
    | some e =>
      if e.state = .recorded && !e.mirrored then .word ((s.finaliseAtStart n jsn 8).wake) (constWord 1)
      else .word s (constWord 0)

/-- A CP3 instruction. -/
def journalOp (t : Thread) (cf : BitVec 7) (latency : Nat) (body : State → Word → Word → CpOut) (f : FmtC) : CpInsn :=
  { cf := cf, unit := .cp3, effect := true, srcs := [f.wa, f.wb], wds := [f.wd], latency := fun _ => latency, fmt := f,
    illegal := f.imm8 != 0, act := fun s => body s (s.reg t f.wa) (s.reg t f.wb) }

/-- JSTAT. -/
def jstatInsn (t : Thread) (f : FmtC) : CpInsn := journalOp t 0x01 6 State.jstat f

/-- JSYNC. -/
def jsyncInsn (t : Thread) (f : FmtC) : CpInsn := journalOp t 0x02 0 (fun s a b => s.jsync t a b) f

/-- JDRAIN. -/
def jdrainInsn (t : Thread) (f : FmtC) : CpInsn := journalOp t 0x03 6 (fun s a b => s.jdrain t a b) f

/-- JPOISON. -/
def jpoisonInsn (t : Thread) (f : FmtC) : CpInsn := journalOp t 0x04 12 State.jpoison f

/-- The limit of the thread's wait is reached, and WD is written (R278). -/
def State.waitLimit (s : State) (t : Thread) : State :=
  match s.seq.jwaits.find? fun w => w.thread = t with
  | none => s
  | some w =>
    let s := s.endWait w
    match s.seq.ops.find? fun o => o.id = w.id with
    | some o => s.finishOp o
    | none => s

/-! ### Meanings -/

/-- RIFSTART (R285). -/
def execRifstart (t : Thread) (f : FmtC) (s : State) : Next := .next (coprocessor t (rifControl t 0x01 State.rifStart f) s)

/-- RIFSTOP (R285). -/
def execRifstop (t : Thread) (f : FmtC) (s : State) : Next := .next (coprocessor t (rifControl t 0x02 State.rifStop f) s)

/-- RIFPUSH (R294). -/
def execRifpush (t : Thread) (f : FmtC) (s : State) : Next := .next (coprocessor t (rifPushInsn t f) s)

/-- RIFPOP (R295). -/
def execRifpop (t : Thread) (f : FmtC) (s : State) : Next := .next (coprocessor t (rifPopInsn t f) s)

/-- RIFSTAT with WA[6] = 0 (R304). -/
def execRifstatChannel (t : Thread) (f : FmtC) (s : State) : Next := .next (coprocessor t (rifStat t f) s)

/-- RIFSTAT with WA[6] = 1 (R304). -/
def execRifstatEngine (t : Thread) (f : FmtC) (s : State) : Next := .next (coprocessor t (rifStat t f) s)

/-- RIFCLR with WA[6] = 0 (R304). -/
def execRifclrChannel (t : Thread) (f : FmtC) (s : State) : Next := .next (coprocessor t (rifClear t f) s)

/-- RIFCLR with WA[6] = 1 (R304). -/
def execRifclrEngine (t : Thread) (f : FmtC) (s : State) : Next := .next (coprocessor t (rifClear t f) s)

/-- CRC32C (Table 3.11). -/
def execCrc32c (t : Thread) (f : FmtC) (s : State) : Next := .next (coprocessor t (crc32cInsn t f) s)

/-- CRC16 (Table 3.11). -/
def execCrc16 (t : Thread) (f : FmtC) (s : State) : Next := .next (coprocessor t (crc16Insn t f) s)

/-- CRC8 (Table 3.11). -/
def execCrc8 (t : Thread) (f : FmtC) (s : State) : Next := .next (coprocessor t (crc8Insn t f) s)

/-- CSUM16 (Table 3.11). -/
def execCsum16 (t : Thread) (f : FmtC) (s : State) : Next := .next (coprocessor t (csum16Insn t f) s)

/-- HASH384 (Table 3.11). -/
def execHash384 (t : Thread) (f : FmtC) (s : State) : Next := .next (coprocessor t (hash384Insn t f) s)

/-- ECVERIFY (Table 3.11). -/
def execEcverify (t : Thread) (f : FmtC) (s : State) : Next := .next (coprocessor t (ecverifyInsn t f) s)

/-- JSTAT with WA[3:2] = 0 (Table 10.5). -/
def execJstatPort (t : Thread) (f : FmtC) (s : State) : Next := .next (coprocessor t (jstatInsn t f) s)

/-- JSTAT with WA[3:2] = 1 (Table 10.5). -/
def execJstatAttention (t : Thread) (f : FmtC) (s : State) : Next := .next (coprocessor t (jstatInsn t f) s)

/-- JSTAT with WA[3:2] = 2 (Table 10.5). -/
def execJstatEntry (t : Thread) (f : FmtC) (s : State) : Next := .next (coprocessor t (jstatInsn t f) s)

/-- JSYNC (Table 10.5). -/
def execJsync (t : Thread) (f : FmtC) (s : State) : Next := .next (coprocessor t (jsyncInsn t f) s)

/-- JDRAIN with WA[2] = 0 (Table 10.5). -/
def execJdrainClose (t : Thread) (f : FmtC) (s : State) : Next := .next (coprocessor t (jdrainInsn t f) s)

/-- JDRAIN with WA[2] = 1 (Table 10.5). -/
def execJdrainReopen (t : Thread) (f : FmtC) (s : State) : Next := .next (coprocessor t (jdrainInsn t f) s)

/-- JPOISON (Table 10.5). -/
def execJpoison (t : Thread) (f : FmtC) (s : State) : Next := .next (coprocessor t (jpoisonInsn t f) s)

end Sys2Proof.Machine
end

