-- ==== Sys2Proof/WellFormed.lean ====
section
/-! DEFINITION. Which commands are well formed: where several rows of the table are forms of one encoding or one packet, the
operand bits that tell them apart are those of the row; operands that name a stage, a line or a count are in range. A
command that is not well formed has a meaning all the same: the meanings read the bits, not the row. -/

namespace Sys2Proof

/-- The SX value that tells the two forms of an opcode apart (Table 3.12). -/
def sxIs (f : FmtS) (v : BitVec 13) : Bool := f.sx == v

/-- A profile instruction carries its subsystem's SUB (Table 3.16). -/
def subIs (f : FmtS) (v : BitVec 4) : Bool := f.sub == v

/-- XCTL and XGET by SX[2:0] (Table 3.12). -/
def sxLow (f : FmtS) (v : BitVec 3) : Bool := f.sx.extractLsb' 0 3 == v

/-- An XCTL of one field: SUB, page and field (Table 3.12). -/
def xctlOf (f : FmtS) (sub : BitVec 4) (page : BitVec 4) (field : BitVec 6) : Bool :=
  sxLow f 0 && f.sub == sub && f.sx.extractLsb' 9 4 == page && f.sx.extractLsb' 3 6 == field

/-- The TYPE of a group packet (Table 13.3). -/
def GrpBody.type : GrpBody → Nat
  | .hello .. => 0x01 | .heartbeat .. => 0x02 | .propose .. => 0x03 | .ack => 0x04 | .commit .. => 0x05
  | .tprobe .. => 0x06 | .fwdreq .. => 0x07 | .fwddata .. => 0x08 | .fwdrsp .. => 0x09 | .jrec .. => 0x0A
  | .jrecx .. => 0x0B | .jout .. => 0x0C | .jack .. => 0x0D | .leave => 0x0E | .reserved t _ => t.toNat

/-- The TYPE of a group packet is that of its row; a reserved TYPE, which has no row, may stand under any (Table 13.3, R337). -/
def GrpPkt.typeOk (k : GrpPkt) (n : Nat) : Bool :=
  match k.body with
  | .reserved t _ => t == 0 || 0x0E < t.toNat
  | b => b.type == n

/-- A Riffle instruction's bits that tell its row from another of the same opcode (Table 11.3). -/
def riffleIs (f : BitVec 28) (lo n v : Nat) : Bool := (f.extractLsb' lo n).toNat == v

/-- Stages that a lane or port can time out in (Table 6.7). -/
def stageOk (n : Nat) : Bool := 2 ≤ n && n ≤ 6

/-- A line or granule of the Reservoir (R109, R127). -/
def lineOk (n : Nat) : Bool := n < 2 ^ 20

/-- What a codeword brings: ten flits, corrected symbols on lanes 0 to 3 (R134, R135). -/
def Codeword.ok (c : Codeword) : Bool := c.flits.length ≤ 10 && c.corrected.all fun k => k < 4

/-- Whether a command is well formed. -/
def Instr.wellFormed : Instr → Bool
  | .groupjoin _ f => !sxIs f 1
  | .groupleave _ f => sxIs f 1
  | .portEnable _ f => sxIs f 1
  | .portDisable _ f => !sxIs f 1
  | .laneprof _ f => subIs f 0
  | .linkprof _ f => subIs f 1
  | .portprof _ f => subIs f 2
  | .weirprof _ f => subIs f 3
  | .jrnlprof _ f => subIs f 4
  | .leveeprof _ f => subIs f 5
  | .rifprof _ f => subIs f 6
  | .fieldprof _ f => subIs f 7
  | .gaugeprof _ f => subIs f 8
  | .groupprof _ f => subIs f 9
  | .timeprof _ f => subIs f 10
  | .expertOn _ f => sxIs f 1
  | .expertOff _ f => !sxIs f 1
  | .xctl _ f => !sxLow f 1
  | .retrain _ f => xctlOf f 0 0 5
  | .scango _ f => xctlOf f 0 4 11
  | .fpclear _ f => xctlOf f 7 0 2
  | .lpclear _ f => xctlOf f 7 0 3
  | .xget _ f => sxLow f 1
  | .entryCloseTimeout _ l => lineOk l
  | .drainWrite _ l => lineOk l
  | .protectionWindowEnd g => lineOk g
  | .stageTimeout _ n => stageOk n
  | .codewordReceive _ c => c.ok
  | .fomUpdate _ _ den => den != 0
  | .summaryScan _ l =>
    l.length ≤ 4 && l.all fun e => (e.length = 1 || e.length = 3) && e.all fun x => x.phase.length = 64 && x.volt.length = 127
  | .give _ f _ => riffleIs f 25 1 0
  | .giveStamp _ f _ => riffleIs f 25 1 1
  | .driveVal _ f _ => riffleIs f 27 1 0
  | .driveEn _ f _ => riffleIs f 27 1 1
  | .sigRaise _ f _ => riffleIs f 26 2 0
  | .sigLower _ f _ => riffleIs f 26 2 1
  | .hello _ k => k.typeOk 0x01
  | .heartbeat _ k => k.typeOk 0x02
  | .propose _ k => k.typeOk 0x03
  | .ack _ k => k.typeOk 0x04
  | .commit _ k => k.typeOk 0x05
  | .tprobe _ k => k.typeOk 0x06
  | .fwdreq _ k => k.typeOk 0x07
  | .fwddata _ k => k.typeOk 0x08
  | .fwdrsp _ k => k.typeOk 0x09
  | .jrec _ k => k.typeOk 0x0A
  | .jrecx _ k => k.typeOk 0x0B
  | .jout _ k => k.typeOk 0x0C
  | .jack _ k => k.typeOk 0x0D
  | .leave _ k => k.typeOk 0x0E
  | _ => true

end Sys2Proof
end

