-- ==== Sys2Proof/Machine/Wire.lean ====
section
/-! DEFINITION. Packets as words and flits: Tables 7.2 to 7.6, 7.8, 7.10, 10.12, 13.2 and 13.3 (R161 to R164). -/

namespace Sys2Proof

open Machine

/-- KIND (Table 7.3). -/
def Machine.rqKindCode : RqKind → BitVec 4
  | .rd => 1 | .flush => 1 | .wrn => 2 | .wrp => 3 | .int => 5

/-- H0 (Table 7.4). -/
def Hdr.word (h : Hdr) (kind : BitVec 4) : Word :=
  h.rsv ++ BitVec.ofBool h.retx ++ BitVec.ofBool h.pair ++ h.len ++ h.dst ++ h.src ++ h.psn ++ h.tag ++ kind

/-- The header words of a request or INT (Tables 7.3 and 7.5). -/
def ReqPkt.head (k : ReqPkt) (kind : RqKind) : List Word :=
  [k.h.word (rqKindCode kind), k.otoken ++ k.odom ++ k.addr] ++ (if kind = .wrn then [k.h2rsv ++ k.wseq] else [])

/-- H1 of a response (Table 7.6). -/
def Machine.rspWord (code : BitVec 4) (offset : BitVec 8) (rsv1 : BitVec 4) (hint : BitVec 16) (rsv2 : BitVec 40) : Word :=
  rsv2 ++ hint ++ rsv1 ++ offset ++ code

/-- A link control packet (Table 7.8). -/
def LcpPkt.word (k : LcpPkt) : Word :=
  k.rsv2 ++ k.cred3 ++ k.cred2 ++ k.cred1 ++ k.cred0 ++ BitVec.ofBool k.rsv1 ++ BitVec.ofBool k.nak ++ k.ackpsn ++ 8#4

/-- The words of a HELLO (Table 13.3). -/
def HelloBody.words (b : HelloBody) : List Word :=
  ((List.range 6).map fun i => constWord (b.digest.extractLsb' (64 * i) 64)) ++
    [constWord (b.version ++ 0#10 ++ b.n1 ++ b.prio ++ b.ports ++ b.rev ++ b.compat),
     constWord ((b.group ++ 0#13 ++ b.verMatch ++ BitVec.ofBool b.takeUnm ++ b.cands).setWidth 64)]

/-- The word of a HEARTBEAT (Table 13.3). -/
def HeartBody.word (b : HeartBody) : Word :=
  constWord (b.ackEpoch ++ 0#6 ++ b.tstate ++ b.svalid ++ b.stewards ++ b.gstate ++ b.view ++ b.seen)

/-- The words after the group header (Table 13.3). -/
def GrpBody.words : GrpBody → List Word
  | .hello b => b.words
  | .heartbeat b => [b.word]
  | .propose m => [constWord (m.setWidth 64)]
  | .ack => []
  | .commit m => [constWord (m.setWidth 64)]
  | .tprobe a b c => [constWord a, constWord b, constWord c]
  | .fwdreq kind r => r.head kind ++ r.data
  | .fwddata l => l
  | .fwdrsp code off hint _ l => rspWord code off 0 hint 0 :: l
  | .jrec a b c d e l => [constWord a, constWord b, constWord c, constWord d, constWord e] ++ l
  | .jrecx l => l
  | .jout j o p => [constWord ((p ++ o ++ j).setWidth 64)]
  | .jack j p o => [constWord ((BitVec.ofBool o ++ p ++ 0#4 ++ j).setWidth 64)]
  | .leave => []
  | .reserved _ l => l

/-- The group header (Table 13.2). -/
def GrpPkt.header (k : GrpPkt) : Word :=
  constWord (0#16 ++ k.epoch ++ 0#4 ++ k.dest ++ k.sender ++ BitVec.ofNat 8 k.body.type)

/-- The words of a packet, headers first (Table 7.3). -/
def Machine.Pkt.wire : Pkt → List Word
  | .rq kind k => k.head kind ++ k.data
  | .rsp k => [k.h.word 4, rspWord k.code k.offset k.rsv1 k.hint k.rsv2] ++ k.data
  | .time k => [k.h.word 7, k.txtime, k.echotx, k.echorx]
  | .lcp k => [k.word]
  | .assign h => [h.word 9]
  | .grp k => [k.h.word 6, k.otoken ++ k.odom ++ k.addr, k.header] ++ k.body.words

/-- The virtual channel of a packet (Table 7.3). -/
def Machine.Pkt.vc : Pkt → BitVec 2
  | .rq .wrp _ => 0 | .rq .int _ => 0 | .rq _ _ => 1 | .rsp _ => 2 | _ => 3

/-- The control field of a TXN flit (Tables 6.4 and 7.2). -/
def Machine.txnCtl (vc : BitVec 2) (sop eop : Bool) : Byte := 1#2 ++ vc ++ BitVec.ofBool sop ++ BitVec.ofBool eop ++ 0#2

/-- Words as flits of seven, the words behind the end 0 (R162). -/
def Machine.flitsFrom (vc : BitVec 2) : Nat → Bool → List Word → List Flit
  | 0, _, _ => []
  | n + 1, sop, l =>
    let rest := l.drop 7
    { ctl := txnCtl vc sop rest.isEmpty, words := (l.take 7) ++ List.replicate (7 - l.length) 0 } ::
      (if rest.isEmpty then [] else Machine.flitsFrom vc n false rest)

/-- The flits of a packet (R162). -/
def Machine.Pkt.toFlits (k : Pkt) : List Flit := flitsFrom k.vc k.wire.length true k.wire

end Sys2Proof
end

