-- ==== Sys2Proof/Machine/Link.lean ====
section
/-! DEFINITION. A port into and out of link up: what its transaction layer keeps and loses, and the end of the requests the
device has outstanding (R145, R168, R170, R173, R182, R185, R187, R380). -/

namespace Sys2Proof.Machine

/-! ### The device's own requests (R167, R168, R170) -/

/-- A flush of FENCE.IO ended: the posted writes it followed are completed (R106). -/
def State.fenceFlushed (s : State) (t : Thread) (id : Nat) : State :=
  { s with seq := { s.seq with postedOut := s.seq.postedOut.filter fun q => !(q.thread = t && q.flush = some id) } }.unblock t

/-- A part of a request given to whoever issued it. -/
def State.ownerPart (s : State) (o : ReqOwner) (p : Part) : State :=
  match o with
  | .ext id => s.extPart id p
  | .card n a i dom gen => s.cardPart n a i dom gen p
  | .ewaFlush n id => s.ewaFlushed n id
  | .fenceFlush t id => s.fenceFlushed t id

/-- The bytes of a request that no part covers. -/
def OutReq.uncovered (q : OutReq) : List Nat := (List.range q.len).filter fun i => !partsCover q.parts i 1

/-- Whether a request is fully answered (R168); a flush is by its one response. -/
def OutReq.answered (q : OutReq) : Bool := if q.len = 0 then !q.parts.isEmpty else q.uncovered.isEmpty

/-- Rising numbers as runs of consecutive ones: first and length. -/
def runsOf : List Nat → List (Nat × Nat)
  | [] => []
  | i :: r =>
    match runsOf r with
    | [] => [(i, 1)]
    | (j, n) :: t => if j = i + 1 then (i, n + 1) :: t else (i, 1) :: (j, n) :: t

/-- A part that ended with 0x6. -/
def timeoutPart (r : Nat × Nat) : Part := { off := r.1, len := r.2, code := 6, hint := 0, words := [] }

/-- A request that ends with 0x6 for the parts not yet covered (R170, R185). -/
def State.endOut (s : State) (q : OutReq) : State :=
  (if q.len = 0 then [(0, 0)] else runsOf q.uncovered).foldl (fun s r => s.ownerPart q.owner (timeoutPart r)) s

/-! ### Flits and segments sent (R162, R183, R379 to R382) -/

/-- The flits of a packet of `n` words (R162). -/
def flitsOf (n : Nat) : Nat := (n + 6) / 7

/-- The words of a packet: headers and data (Table 7.3). -/
def Pkt.words : Pkt → Nat
  | .rq k p => (if k = .wrn then 3 else 2) + p.data.length
  | .rsp p => 2 + p.data.length
  | .time _ => 4
  | .lcp _ => 1
  | .assign _ => 1
  | .grp k => 3 + grpWords k.body

/-- The flits of a packet. -/
def Pkt.flits (k : Pkt) : Nat := flitsOf k.words

/-- SEGNO can rise no further under one key (R382). -/
def segLimit : Nat := 2 ^ 48

/-- Whether `n` more flits can be sealed: under a new key, or under the present one below the limit (R379, R382). -/
def Mxt.segmentRoom (m : Mxt) (max n : Nat) : Bool :=
  if m.seg.isEmpty && m.nextKey.isSome then true
  else m.txKey.isSome && decide (m.segno.toNat < segLimit) &&
    (decide (m.segno.toNat + 1 < segLimit) || m.nextKey.isSome ||
      decide (m.seg.length + n ≤ (if m.seg.isEmpty then max else m.segMax)))

/-- A segment opened: a new key takes effect with SEGNO 0 (R379), SEALFLITS is that in force (R187). -/
def Mxt.openSegment (max : Nat) (m : Mxt) : Mxt :=
  match m.nextKey with
  | some k => { m with txKey := some k, nextKey := none, segno := 0, segMax := max }
  | none => { m with segMax := max }

/-- The bytes that the words of flits are encrypted to under a link key, and the GCM tag: the nonce is the salt and SEGNO, the
additional data SEGNO and the control fields (R183). -/
def LinkKey.crypt (k : LinkKey) (segno : BitVec 64) (l : List Flit) : List Byte × List Byte :=
  let keys := aesKeys (beBytes 32 k.key.toNat)
  let nonce := beBytes 4 k.salt.toNat ++ beBytes 8 segno.toNat
  let cipher := gcmCrypt keys nonce (l.flatMap fun f => Config.wordBytes f.words)
  (cipher, gcmTag keys nonce (beBytes 8 segno.toNat ++ l.map Flit.ctl) cipher)

/-- Bytes as the bits of a number, byte i in [8i + 7:8i]. -/
def leBits (l : List Byte) : Nat := l.foldr (fun b n => b.toNat + 256 * n) 0

/-- A segment encrypted and sealed under a key (R183, Table 7.11). -/
def LinkKey.sealed (k : LinkKey) (segno : BitVec 64) (l : List Flit) : Sealed :=
  let c := k.crypt segno l
  { flit := { segno := segno, epoch := k.epoch, tag := BitVec.ofNat 128 (leBits c.2), zeros := true }, cipher := c.1 }

/-- A segment closed: its words encrypted, its seal flit sent behind them (R183). -/
def Mxt.closeSegment (m : Mxt) : Mxt :=
  { m with segno := m.segno + 1, seg := [], lastSealed := (m.txKey.map fun k => k.sealed m.segno m.seg).or m.lastSealed }

/-- One TXN flit put into a segment, which SEALFLITS flits close (R183). -/
def Mxt.sendFlit (max : Nat) (m : Mxt) (f : Flit) : Mxt :=
  let m := if m.seg.isEmpty then m.openSegment max else m
  let m := { m with seg := m.seg ++ [f] }
  if m.segMax ≤ m.seg.length then m.closeSegment else m

/-- Whether a port can send a packet of `n` flits at all (R145, R379, R382). -/
def State.canSend (s : State) (p : MxNo) (n : Nat) : Bool :=
  s.mxt[p].up && (!s.mxt[p].encTx || s.mxt[p].segmentRoom (s.fld .mxt p.val 2) n)

/-- The LINK event of a SEGNO that has come to its limit (R382). -/
def State.segEvent (s : State) (p : MxNo) (before : BitVec 64) : State :=
  if before.toNat < segLimit && segLimit ≤ s.mxt[p].segno.toNat then s.raiseEvent evLink else s

/-- TXN flits sent: with encryption on, in segments (R183). -/
def State.sendFlits (s : State) (p : MxNo) (l : List Flit) : State :=
  if !s.mxt[p].encTx then s
  else
    let max := s.fld .mxt p.val 2
    let before := s.mxt[p].segno
    (s.modMxt p fun m => l.foldl (fun m f => m.sendFlit max f) m).segEvent p before

/-- The open transmit segment closed, if there is one (R183). -/
def State.closeOpen (s : State) (p : MxNo) : State :=
  let m := s.mxt[p]
  if m.up && m.encTx && !m.seg.isEmpty then (s.modMxt p Mxt.closeSegment).segEvent p m.segno else s

/-- SEGMENT_CLOSE: SEALTIME after the first flit of an open segment (R183). -/
def segmentClose (p : MxNo) (s : State) : State := s.closeOpen p

/-! ### Link control packets (R177, R179) -/

/-- The LCP that a port sends (Table 7.8). -/
def Mxt.lcp (m : Mxt) (nak : Bool) : LcpPkt :=
  { ackpsn := m.rxPsn - 1, nak := nak, rsv1 := false, cred0 := m.freed[0], cred1 := m.freed[1], cred2 := m.freed[2],
    cred3 := m.freed[3], rsv2 := 0 }

/-- An LCP sent, which acknowledges what has come in order and tells the credits. -/
def State.sendLcp (s : State) (p : MxNo) (nak : Bool) : State :=
  if !s.canSend p 1 then s
  else
    (s.modMxt p fun m => { m with lastLcp := some (m.lcp nak), told := m.freed, ackOwed := false }).sendFlits p
      (Pkt.lcp (s.mxt[p].lcp nak)).toFlits

/-- A PSN gap, an uncorrectable codeword or a failed seal: a NAK LCP goes out, and packets are discarded until the missing one
arrives (R177). -/
def State.gap (s : State) (p : MxNo) : State :=
  let s := s.modMxt p fun m => { m with nak := true }
  if s.canSend p 1 then (s.bumpMxt p 3).sendLcp p true else s

/-! ### Link up -/

/-- The transaction layer at link up (R145, R173, R182, R187): credits at the buffer sizes, the endpoint ID that IDMODE gives,
the encryption fields in force. -/
def Mxt.linkUp (encTx encRx fixed : Bool) (id : BitVec 16) (m : Mxt) : Mxt :=
  { m with up := true, encTx := encTx, encRx := encRx, fixed := fixed, epid := if fixed then id else 0,
           echoTx := BitVec.allOnes 64, echoRx := 0 }

/-- A port enters link up. -/
def State.linkUp (s : State) (p : MxNo) : State :=
  let f := s.fld .mxt p.val
  (s.modMxt p (Mxt.linkUp (f 0 == 1) (f 1 == 1) (f (key 2 0) == 1) (BitVec.ofNat 16 (f (key 2 1))))).raiseEvent evLink

/-! ### Link drop (R185) -/

/-- The packets that a port has queued or not had acknowledged. -/
def Mxt.allPkts (m : Mxt) : List Pkt :=
  (m.queues.toList.flatten.map QPkt.pkt) ++ m.unacked.map Unacked.pkt

/-- Whether a packet counts in POSTLOST. -/
def Pkt.posted : Pkt → Bool
  | .rq k _ => rqPosted k
  | _ => false

/-- Whether a packet is a response. -/
def Pkt.isRsp : Pkt → Bool
  | .rsp _ => true
  | _ => false

/-- The counters of what a drop loses: posted packets, responses, and the flush responses that are now due to nobody. -/
def Mxt.lostCounts (m : Mxt) : Counters :=
  let l := m.allPkts
  bumpBy 10 ((l.filter Pkt.isRsp).length + (m.flushes.filter fun f => f.int.isNone && f.wrp.isNone).length)
    (bumpBy 9 (l.filter Pkt.posted).length m.cnt)

/-- The transaction layer after a drop: queues, replay, credits and segments empty, the endpoint ID cleared in IDMODE 0;
keys and SEGNO stay, an abandoned segment's SEGNO is not used again (R183, R380), posted work in progress goes on. -/
def Mxt.dropped (m : Mxt) : Mxt :=
  { m with up := false, gen := m.gen + 1, epid := if m.fixed then m.epid else 0, queues := Vector.replicate 4 [],
           unacked := [], txPsn := 0, rxPsn := 0, nak := false, ackOwed := false, replays := 0,
           credit := #v[192, 96, 192, 48], used := Vector.replicate 4 0, freed := #v[192, 96, 192, 48],
           told := #v[192, 96, 192, 48], reqs := [], heldTags := [], ins := m.ins.filter InReq.posted,
           flushes := m.flushes.filter fun f => f.int.isSome || f.wrp.isSome, segno := if m.seg.isEmpty then m.segno else m.segno + 1,
           seg := [], held := [], encMismatch := false, cnt := m.lostCounts }

/-- A port leaves link up: its transaction state resets at once, and every non-posted request of the device on it ends. -/
def State.linkDrop (s : State) (p : MxNo) : State :=
  if !s.mxt[p].up then s
  else
    let l := s.mxt[p].reqs
    let s := s.modMxt p Mxt.dropped
    let s := l.foldl State.endOut s
    s.raiseEvent evLink

/-- SEGMENT_CLOSE. -/
def execSegmentClose (p : MxNo) (s : State) : Host.Outcome State Fault Refusal := .next (segmentClose p s)

end Sys2Proof.Machine
end

