-- ==== Sys2Proof/Machine/Lanes.lean ====
section
/-! DEFINITION. The lanes of an MX port: bring-up, link loss, quick relock, figure of merit and eye scans (R130 to R160,
R421). -/

namespace Sys2Proof.Machine

/-! ### Lanes of a port (R130, R142) -/

/-- The four physical lanes of a port. -/
def allLanes : List (Fin 4) := [0, 1, 2, 3]

/-- The port of a physical lane. -/
def lanePort (l : LaneNo) : MxNo := Fin.ofNat 2 (l.val / 4)

/-- A physical lane's place in its port. -/
def laneIn (l : LaneNo) : Fin 4 := Fin.ofNat 4 l.val

/-- The logical lane of a physical lane, and the physical lane of a logical one (R130). -/
def LanePort.swap (q : LanePort) (i : Fin 4) : Fin 4 := if q.reversed then Fin.ofNat 4 (3 - i.val) else i

/-- The number of lanes of the agreed width (Table 6.3). -/
def LanePort.lanesOf (q : LanePort) : Nat := 2 ^ q.width.toNat

/-- Whether a physical lane is within the agreed width. -/
def LanePort.inWidth (q : LanePort) (i : Fin 4) : Bool := (q.swap i).val < q.lanesOf

/-- The lanes of the width. -/
def LanePort.used (q : LanePort) : List (Fin 4) := allLanes.filter q.inWidth

/-- One lane changed. -/
def LanePort.modLane (q : LanePort) (i : Fin 4) (f : Lane → Lane) : LanePort := { q with lanes := vmod q.lanes i f }

/-- Every lane changed. -/
def LanePort.mapLanes (q : LanePort) (f : Lane → Lane) : LanePort := { q with lanes := q.lanes.map f }

/-- A lane of a port in a state. -/
def State.laneOf (s : State) (l : LaneNo) : Lane := s.lanes[lanePort l].lanes[laneIn l]

/-- Whether the lanes of a port run: powered, in Run, no main reset, no zeroisation (R139, R388, R398). -/
def State.laneLive (s : State) (p : MxNo) : Bool := s.lanes[p].powered && s.clocked

/-- One physical lane changed. -/
def State.modLane (s : State) (l : LaneNo) (f : Lane → Lane) : State :=
  s.modLn (lanePort l) fun q => q.modLane (laneIn l) f

/-! ### Stages (Table 6.7) -/

/-- A lane back at stage 1: the polarity correction ends (R141). -/
def Lane.restart (x : Lane) : Lane :=
  { x with stage := 1, locked := false, markers := 0, sense := false, inverted := false, lastTf := none, sameTf := 0,
           switched := false, rxReady := false, peerReady := false, status := 0 }

/-- A lane back at stage 2 (R144). -/
def Lane.again (x : Lane) : Lane := { x.restart with stage := 2, inverted := x.inverted }

/-- A LANE field that takes effect at once in link up; an attempt in progress keeps the value it started with (R158). -/
def State.laneFld (s : State) (p : MxNo) (k : Nat) : Nat :=
  if s.lanes[p].stage = 7 then s.fld .lane p.val k else forced s.lanes[p].inForce k

/-- With CTLEMODE = 1 each lane holds its written CTLE code (R158, R159). -/
def State.holdCtle (s : State) (p : MxNo) : State :=
  if s.laneFld p (key 2 0) = 1 then
    s.modLn p fun q => { q with lanes := Vector.ofFn fun i : Fin 4 =>
      { q.lanes[i] with ctle := BitVec.ofNat 4 (s.laneFld p (key 2 (1 + (q.swap i).val))) } }
  else s

/-- The fields that take effect at the entry into stage 1 and stage 4 (R158). -/
def State.latchLane (s : State) (p : MxNo) : State :=
  (s.modLn p fun q => { q with inForce := s.subs[subIdx .lane p.val].fields }).holdCtle p

/-- A lane's CTLE and DFE after adaptation, by free values (R143, R149; log 93). -/
def Lane.adapt (x : Lane) (ctle dfe : Bool) (l : List (BitVec 64)) : Lane :=
  { x with ctle := if ctle then (l.getD 0 0).setWidth 4 else x.ctle,
           dfe := if dfe then Vector.ofFn fun k : Fin 12 => (l.getD (k.val + 1) 0).setWidth 8 else x.dfe }

/-- A lane's receiver adapts: the CTLE unless CTLEMODE = 1, and the DFE unless it is frozen (R143, R149, R159, Table 6.11). -/
def State.adaptLane (s : State) (l : LaneNo) (frozen : Bool) : State :=
  let p := lanePort l
  let d := s.drawN 13
  d.2.modLane l fun x => x.adapt (s.laneFld p (key 2 0) = 0) (!frozen) d.1

/-- The taps a lane's transmitter starts from: the written ones under FFEMODE = 1, the starting preset otherwise (R148,
R159). -/
def LanePort.startTaps (q : LanePort) (i : Fin 4) : Vector Int 5 :=
  if forced q.inForce (key 1 0) = 1 then
    Vector.ofFn fun t : Fin 5 => ((aget (tapKey (q.swap i).val t.val) q.inForce).getD 0).toInt
  else Vector.ofFn fun t : Fin 5 => (presetTaps (forced q.inForce (key 1 1))).getD t.val 0

/-- Every lane's taps at their start. -/
def LanePort.setTaps (q : LanePort) : LanePort :=
  { q with lanes := Vector.ofFn fun i : Fin 4 => { q.lanes[i] with taps := q.startTaps i } }

/-- The stage that STATE shows before stage 5: that of the furthest lane (Table 6.12). -/
def LanePort.refresh (q : LanePort) : LanePort :=
  { q with stage := allLanes.foldl (fun m i => max m q.lanes[i].stage) 1 }

/-- The port at stage 1 (R139, R140). A RETRAIN still being sent has its effect with it: the rate marks are cleared (R160). -/
def State.toStage1 (s : State) (p : MxNo) : State :=
  ((s.modLn p fun q =>
    { q.mapLanes Lane.restart with stage := 1, agreed := false, relocking := false, sending := none, badRun := 0, goodRun := 0,
                                   failed := if q.sending = some .retrain then 0 else q.failed }).latchLane p).modLn p
    LanePort.setTaps

/-- A failure recorded: LASTFAIL and ATTEMPTS (R144). -/
def State.stageFail (s : State) (p : MxNo) (stage cause : Nat) : State :=
  (s.bumpLn p 6).modLn p fun q => { q with lastFail := BitVec.ofNat 8 (stage + 16 * cause) }

/-- The rate codes from RATEMIN to RATEMAX in force. -/
def LanePort.rates (q : LanePort) : List Nat :=
  [2, 1, 0].filter fun r => forced q.inForce 1 ≤ r && r ≤ forced q.inForce 0

/-- The rates the port still offers (R143). -/
def LanePort.ownCap (q : LanePort) : List Nat := q.rates.filter fun r => !q.failed.getLsbD r

/-- Stage 5 or 6 has failed (R144): the rate is marked; every lane goes back to stage 2, or the port waits 10 ms when no rate is
left. -/
def State.rateFail (s : State) (p : MxNo) (stage cause : Nat) : State :=
  let s := s.stageFail p stage cause
  let s := s.modLn p fun q => { q with failed := setBit q.failed q.rate.toNat true }
  if s.lanes[p].ownCap.isEmpty then (s.toStage1 p).modLn p fun q => { q with waiting10 := true }
  else s.modLn p fun q =>
    ({ q.mapLanes Lane.again with agreed := false, badRun := 0, goodRun := 0 }).refresh

/-- Stage 4 has failed: the port goes back to stage 1 (Table 6.7). -/
def State.mapFail (s : State) (p : MxNo) (cause : Nat) : State := (s.stageFail p 4 cause).toStage1 p

/-! ### Training frames (Table 6.6) -/

/-- LANE of a TF control word. -/
def tfLane (c : BitVec 32) : Nat := (c.extractLsb' 0 3).toNat
/-- WIDTH. -/
def tfWidth (c : BitVec 32) : Nat := (c.extractLsb' 3 2).toNat
/-- RATE. -/
def tfRate (c : BitVec 32) : Nat := (c.extractLsb' 5 2).toNat
/-- CAP. -/
def tfCap (c : BitVec 32) : BitVec 3 := c.extractLsb' 7 3
/-- REQTAP. -/
def tfTap (c : BitVec 32) : Nat := (c.extractLsb' 10 3).toNat
/-- REQCMD. -/
def tfCmd (c : BitVec 32) : Nat := (c.extractLsb' 13 2).toNat
/-- RXREADY. -/
def tfReady (c : BitVec 32) : Bool := c.getLsbD 17
/-- FECREQ. -/
def tfFec (c : BitVec 32) : Bool := c.getLsbD 18

/-- One step of the CRC-16 of a control word, its bits taken from the most significant on. -/
def tfCrcStep (c : BitVec 32) (r : BitVec 16) (i : Nat) : BitVec 16 :=
  let top := r.getLsbD 15 ^^ c.getLsbD (31 - i)
  (r <<< 1) ^^^ (if top then 0x1021 else 0)

/-- The CRC-16 of a control word: polynomial 0x1021, most significant bit first, no inversion. -/
def tfCrc (c : BitVec 32) : BitVec 16 := (List.range 32).foldl (tfCrcStep c) 0

/-- Whether a TF counts (R138); the bits that Table 6.6 leaves unnamed are read as 0 (R4). -/
def tfValid (tf : TrainFrame) : Bool :=
  tf.crc == tfCrc tf.ctrl && tfLane tf.ctrl < 4 && tfWidth tf.ctrl < 3 && tfRate tf.ctrl < 3 && tfTap tf.ctrl < 5

/-! ### Mapping (R142, R143) -/

/-- The lanes that have finished stage 3. -/
def LanePort.finished (q : LanePort) : List (Fin 4) := allLanes.filter fun i => q.lanes[i].stage = 4

/-- The control words of the finished lanes. -/
def LanePort.tfs (q : LanePort) : List (Fin 4 × BitVec 32) :=
  q.finished.filterMap fun i => q.lanes[i].lastTf.map fun c => (i, c)

/-- Whether stage 4 can decide: no lane with a signal is in stage 2 or 3, and each finished lane has brought a valid TF (log 81). -/
def LanePort.canMap (q : LanePort) : Bool :=
  q.stage == 4 && !q.agreed &&
    !(allLanes.any fun i => q.lanes[i].signal && (q.lanes[i].stage == 2 || q.lanes[i].stage == 3)) &&
    !q.finished.isEmpty && q.tfs.length == q.finished.length

/-- R142: straight, reversed, or MISWIRED. -/
def LanePort.mapping (q : LanePort) : Option Bool :=
  if q.tfs.all fun x => tfLane x.2 = x.1.val then some false
  else if q.tfs.all fun x => tfLane x.2 = 3 - x.1.val then some true
  else none

/-- R143: what stage 4 agrees, or the cause of its failure. -/
def LanePort.agree (q : LanePort) : Except Nat LanePort :=
  match q.mapping with
  | none => .error 2
  | some rev =>
    let q := { q with reversed := rev }
    let cap := q.tfs.foldl (fun m x => m &&& tfCap x.2) (BitVec.allOnes 3)
    let peerW := q.tfs.foldl (fun m x => min m (tfWidth x.2)) 2
    match q.ownCap.find? fun r => cap.getLsbD r with
    | none => .error 3
    | some rate =>
      let fits := fun w => forced q.inForce 3 ≤ w && w ≤ forced q.inForce 2 && w ≤ peerW &&
        (List.range (2 ^ w)).all fun i => q.lanes[q.swap (Fin.ofNat 4 i)].stage == 4
      match [2, 1, 0].find? fits with
      | none => .error 4
      | some w =>
        .ok { q with rate := BitVec.ofNat 2 rate, width := BitVec.ofNat 2 w, agreed := true,
                     correct := 0 < rate || forced q.inForce 4 = 0 || q.tfs.any fun x => tfFec x.2 }

/-- Stage 4 decided, if it can be. -/
def State.mapAgree (s : State) (p : MxNo) : State :=
  if !s.lanes[p].canMap then s
  else match s.lanes[p].agree with
    | .error c => s.mapFail p c
    | .ok q => s.modLn p fun _ => q

/-! ### Stage 5 -/

/-- Whether everything but FOM ends stage 5 (Table 6.7). -/
def LanePort.adapted (q : LanePort) : Bool :=
  q.used.all fun i => q.lanes[i].switched && q.lanes[i].locked && q.lanes[i].rxReady && q.lanes[i].peerReady

/-- Whether FOM ends stage 5, under the FOMMIN of the attempt in progress (R151, R158). -/
def State.fomGood (s : State) (p : MxNo) : Bool :=
  s.lanes[p].used.all fun i => s.laneFld p (key 2 6) ≤ s.lanes[p].lanes[i].fom.toNat

/-- Stage 5 ended if it can be. -/
def State.checkAdapt (s : State) (p : MxNo) : State :=
  if s.lanes[p].stage = 5 && s.lanes[p].adapted && s.fomGood p then
    s.modLn p fun q => { q with stage := 6, badRun := 0, goodRun := 0 }
  else s

/-- The sum of the magnitudes of five taps. -/
def tapSum (v : Vector Int 5) : Nat := (v.map Int.natAbs).toList.sum

/-- A peer's request to a lane's transmitter: the taps and the answer (R148, R159, Table 6.6). Apply preset applies the PRESET field in
force (DESIGN CHOICE, log 93: Table 6.6 names none). -/
def LanePort.request (q : LanePort) (i : Fin 4) (c : BitVec 32) : Lane :=
  let x := q.lanes[i]
  if forced q.inForce (key 1 0) = 1 || tfCmd c = 0 then { x with status := 0 }
  else if tfCmd c = 3 then
    { x with taps := Vector.ofFn fun t : Fin 5 => (presetTaps (forced q.inForce (key 1 1))).getD t.val 0, status := 3 }
  else
    let t : Fin 5 := Fin.ofNat 5 (tfTap c)
    let v := x.taps[t] + (if tfCmd c = 1 then 1 else -1)
    let taps := x.taps.set t v
    if (tapLimits t.val).1 ≤ v && v ≤ (tapLimits t.val).2 && tapSum taps ≤ 64 then { x with taps := taps, status := 1 }
    else { x with status := 2 }

/-! ### TF_RECEIVE -/

/-- The marker of a TF in stages 2 and 3 (Table 6.7, R141). -/
def Lane.marker (x : Lane) (inv : Bool) : Lane :=
  if x.stage = 2 then
    if 3 ≤ x.markers then { x with stage := 3, locked := true, markers := 0, sense := inv } else { x with markers := x.markers + 1 }
  else if x.stage = 3 then
    let n := if x.sense = inv then x.markers + 1 else 1
    if 8 ≤ n then { x with stage := 4, markers := 0, sense := inv, inverted := inv }
    else { x with markers := n, sense := inv }
  else x

/-- A valid control word on a lane that has finished stage 3, before stage 5: the count of agreed frames, and the switch to
the agreed rate at the sixteenth (R143). -/
def LanePort.countTf (q : LanePort) (i : Fin 4) (c : BitVec 32) : LanePort :=
  let q := q.modLane i fun x => { x with lastTf := some c }
  if q.agreed && q.inWidth i && !q.lanes[i].switched && tfRate c = q.rate.toNat && tfWidth c = q.width.toNat then
    if 15 ≤ q.lanes[i].sameTf then
      let q := if q.stage = 4 then { q.setTaps with stage := 5 } else q
      q.modLane i fun x => { x with sameTf := 16, switched := true, locked := false, rxReady := false, peerReady := false }
    else q.modLane i fun x => { x with sameTf := x.sameTf + 1 }
  else q

/-- A valid control word in stage 5 on a lane that has switched: the peer's requests and RXREADY. A request steps the tap in every TF
that carries it (DESIGN CHOICE, log 93: R148 does not say whether a repeated one acts once). -/
def LanePort.trainTf (q : LanePort) (i : Fin 4) (c : BitVec 32) : LanePort :=
  { q with lanes := q.lanes.set i { q.request i c with lastTf := some c, peerReady := tfReady c } }

/-- A TF's control word. -/
def LanePort.control (q : LanePort) (i : Fin 4) (c : BitVec 32) : LanePort :=
  if q.lanes[i].stage != 4 || 6 ≤ q.stage then q
  else if q.stage = 5 && q.lanes[i].switched then q.trainTf i c
  else q.countTf i c

/-- TF_RECEIVE (R138, R140 to R143, R148). -/
def tfReceive (l : LaneNo) (tf : TrainFrame) (s : State) : State :=
  let p := lanePort l
  let i := laneIn l
  let q := s.lanes[p]
  if !s.laneLive p || q.waiting10 || 6 ≤ q.stage then s
  else
    let was := q.stage
    let s := s.modLn p fun q => if q.stage ≤ 4 then (q.modLane i fun x => x.marker tf.inverted).refresh else q
    let s := if was < 4 && s.lanes[p].stage = 4 then s.latchLane p else s
    let s := if tfValid tf then s.modLn p fun q => q.control i tf.ctrl else s
    (s.mapAgree p).checkAdapt p

/-! ### Signal and timeouts -/

/-- A running full scan stopped, with the RESULT of its unfinished blocks (R156). -/
def State.endScan (s : State) (p : MxNo) (result : BitVec 2) : State :=
  s.modLn p fun q =>
    { q with scan := q.scan.map fun c => if c.result = 0 then { c with result := result, stopped := some s.plant } else c }

/-- The port drops its link under R146. -/
def State.dropLink (s : State) (p : MxNo) : State :=
  let s := s.endScan p 1
  s.linkDrop p

/-- SIGNAL_DETECT: signal present for 1 ms without break (Table 6.7). -/
def signalDetect (l : LaneNo) (s : State) : State :=
  let p := lanePort l
  let q := s.lanes[p]
  if !s.laneLive p then s
  else
    let s := s.modLane l fun x => { x with signal := true }
    if q.waiting10 || 5 ≤ q.stage || (s.laneOf l).stage != 1 then s
    else (s.modLane l fun x => { x with stage := 2, markers := 0 }).modLn (lanePort l) LanePort.refresh

/-- SIGNAL_LOSS: no signal on a lane for 1 us (R146). -/
def signalLoss (l : LaneNo) (s : State) : State :=
  let p := lanePort l
  let q := s.lanes[p]
  if !s.laneLive p then s
  else
    let s := s.modLane l fun x => { x with signal := false }
    if q.stage = 7 && q.inWidth (laneIn l) then ((s.bumpLn p 11).dropLink p).toStage1 p else s

/-- A lane's stage 2 or 3 has timed out: back to stage 1 (Table 6.7). -/
def State.laneFail (s : State) (l : LaneNo) (stage : Nat) : State :=
  let p := lanePort l
  (((s.stageFail p stage 1).modLane l Lane.restart).modLn p LanePort.refresh).mapAgree p

/-- STAGE_TIMEOUT (Table 6.7, R144). -/
def stageTimeout (l : LaneNo) (stage : Nat) (s : State) : State :=
  let p := lanePort l
  let q := s.lanes[p]
  if !s.laneLive p || q.waiting10 then s
  else if (stage = 2 || stage = 3) && q.stage ≤ 4 && (s.laneOf l).stage = stage then s.laneFail l stage
  else if stage = 4 && q.stage = 4 then s.mapFail p 1
  else if stage = 5 && q.stage = 5 then s.rateFail p 5 (if q.adapted then 5 else 1)
  else if stage = 6 && q.stage = 6 && !q.relocking then s.rateFail p 6 1
  else s

/-- ADAPT_COMPLETE: the receiver of a lane has finished adapting its CTLE and DFE (R143, Table 6.6). -/
def adaptComplete (l : LaneNo) (s : State) : State :=
  let q := s.lanes[lanePort l]
  if q.stage = 5 && (s.laneOf l).switched then
    ((s.adaptLane l false).modLane l fun x => { x with rxReady := true }).checkAdapt (lanePort l)
  else s

/-- RUN_RESTART_WAIT_END: 10 ms after every rate had failed (R144). -/
def runRestartWaitEnd (p : MxNo) (s : State) : State :=
  if s.lanes[p].waiting10 then (s.modLn p fun q => { q with waiting10 := false, failed := 0 }).toStage1 p else s

/-! ### Codewords (R137, R145 to R147) -/

/-- The port enters quick relock, or stage 1 under QUICKRELOCK = 1 or where a RETRAIN was being sent; the link is dropped already
(R147, R160). -/
def State.quickRelock (s : State) (p : MxNo) : State :=
  if forced s.lanes[p].inForce 6 = 1 || s.lanes[p].sending == some .retrain then s.toStage1 p
  else s.modLn p fun q =>
    { q with stage := 6, relocking := true, sending := some .relock, badRun := 0, goodRun := 0 }

/-- Eight codewords in a row: the drop of R146 and what follows it (R147). -/
def State.codewordDrop (s : State) (p : MxNo) : State :=
  let s := (s.bumpLn p 11).dropLink p
  if s.lanes[p].used.all fun i => s.lanes[p].lanes[i].signal then s.quickRelock p else s.toStage1 p

/-- Whether a codeword is uncorrectable (R137). -/
def LanePort.uncorrectable (q : LanePort) (cw : Codeword) : Bool :=
  cw.bad || 15 < cw.corrected.length || (!q.correct && !cw.corrected.isEmpty)

/-- Whether a codeword's SYNC is valid (Table 6.3). -/
def cwSync (cw : Codeword) : Bool := cw.marker.extractLsb' 0 12 == 0x5A3

/-- The corrections of a codeword counted (Table 6.12). -/
def LanePort.countCorrected (q : LanePort) (cw : Codeword) : LanePort :=
  if cw.corrected.isEmpty then q
  else
    let c := bumpBy 7 cw.corrected.length (bump 8 q.cnt)
    { q with cnt := cw.corrected.foldl (fun c k => bump (24 + k % q.lanesOf) c) c }

/-- Whether a flit's control field has KIND 11 (Table 6.4). -/
def flitReserved (c : Byte) : Bool := c.extractLsb' 6 2 == 3

/-- Whether a TXN flit's content is undefined (R161, Table 7.2). -/
def flitBadTxn (c : Byte) : Bool :=
  c.extractLsb' 6 2 == 1 && (c.getLsbD 0 || (c.getLsbD 1 && c.extractLsb' 2 4 != 0))

/-- The flits of a good codeword, as far as their control fields go (R136, R161). -/
def State.flits (s : State) (p : MxNo) (l : List Byte) : State :=
  l.foldl (fun s c =>
    if flitReserved c then s.bumpLn p 10
    else if flitBadTxn c && s.mxt[p].up then (s.bumpMxt p 5).gap p
    else s) s

/-- A codeword in stage 6 (Table 6.7) or quick relock (R147): four good ones in a row end it. -/
def State.lockCodeword (s : State) (p : MxNo) (good : Bool) : State :=
  if !good then s.modLn p fun q => { q with goodRun := 0 }
  else if s.lanes[p].goodRun < 3 then s.modLn p fun q => { q with goodRun := q.goodRun + 1 }
  else
    let s := s.modLn p fun q => { q with stage := 7, relocking := false, sending := none, goodRun := 0, badRun := 0 }
    s.linkUp p

/-- A codeword in link up (R146). -/
def State.upCodeword (s : State) (p : MxNo) (good : Bool) : State :=
  if good then s.modLn p fun q => { q with badRun := 0 }
  else if s.lanes[p].badRun < 7 then s.modLn p fun q => { q with badRun := q.badRun + 1 }
  else s.codewordDrop p

/-- CODEWORD_RECEIVE. -/
def codewordReceive (p : MxNo) (cw : Codeword) (s : State) : State :=
  let q := s.lanes[p]
  if !s.laneLive p || q.stage < 6 then s
  else
    let bad := q.uncorrectable cw
    let s := if bad then s.bumpLn p 9 else s.modLn p fun q => q.countCorrected cw
    let s := if bad then (if s.mxt[p].up then s.gap p else s) else s.flits p cw.flits
    let good := !bad && cwSync cw
    if q.stage = 6 then s.lockCodeword p good else s.upCodeword p good

/-- QUICK_RELOCK_TIMEOUT: FEC lock has not returned within 5 ms (R147). -/
def quickRelockTimeout (p : MxNo) (s : State) : State := if s.lanes[p].relocking then s.toStage1 p else s

/-! ### LINK flits (R136, R147, R160) -/

/-- The port restarts at stage 1 with the rate marks cleared, dropping its link (R160). -/
def State.retrainNow (s : State) (p : MxNo) : State :=
  ((s.dropLink p).modLn p fun q => { q with failed := 0, waiting10 := false }).toStage1 p

/-- XCTL of RETRAIN = 1 and what acts as it (R160, R178, R383): FOMLOW is cleared; in link up RETRAIN flits are sent first. -/
def State.retrain (s : State) (p : MxNo) : State :=
  if !s.laneLive p then s
  else
    let s := s.modLn p fun q => { q with fomLow := 0 }
    if s.lanes[p].stage = 7 then s.modLn p fun q => { q with sending := some .retrain } else s.retrainNow p

/-- LINK_FLIT_RECEIVE. -/
def linkFlitReceive (p : MxNo) (code : BitVec 6) (s : State) : State :=
  let q := s.lanes[p]
  if !s.laneLive p || q.stage < 6 then s
  else if code = 1 then
    if q.stage = 7 then (s.dropLink p).quickRelock p else s
  else if code = 2 then s.retrainNow p
  else s.bumpLn p 10

/-- LINK_FLITS_END: 1 us of RELOCK or RETRAIN flits is over (R147, R160). -/
def linkFlitsEnd (p : MxNo) (s : State) : State :=
  match s.lanes[p].sending with
  | none => s
  | some .relock => s.modLn p fun q => { q with sending := none }
  | some .retrain => s.retrainNow p

/-! ### FOM and eyes (R150 to R156) -/

/-- FOM of an opening of num/den in 1/128 of the level spacing (R150). -/
def fomOf (num den : Nat) : Byte := BitVec.ofNat 8 (min 255 (2 * num / den))

/-- A running scan takes note of a lane's FOM (Table 6.9). -/
def Scan.note (c : Scan) (now : Nat) (i : Fin 4) (v : Byte) : Scan := { c with foms := (now, i.val, v) :: c.foms }

/-- FOM_UPDATE (R150). In link up the receivers outside the width are ignored (R130), and the adaptation behind the measurement goes
on (R149). -/
def fomUpdate (l : LaneNo) (num den : Nat) (s : State) : State :=
  let p := lanePort l
  let q := s.lanes[p]
  if q.stage < 5 || (q.stage = 7 && !q.inWidth (laneIn l)) then s
  else
    let s := if q.stage = 7 then s.adaptLane l (s.laneFld p (key 2 5) = 1) else s
    let s := s.modLn p fun q =>
      { (q.modLane (laneIn l) fun x => { x with fom := fomOf num den }) with
        scan := q.scan.map fun c => c.note s.plant (laneIn l) (fomOf num den) }
    s.checkAdapt p

/-- FOMWARN_TIMEOUT: a lane has stayed below FOMWARN for 1 s (R151). -/
def fomwarnTimeout (l : LaneNo) (s : State) : State :=
  let p := lanePort l
  let q := s.lanes[p]
  if q.stage = 7 && q.inWidth (laneIn l) && (s.laneOf l).fom.toNat < s.fld .lane p.val (key 2 7) then
    (s.modLn p fun q => { q with fomLow := setBit q.fomLow (q.swap (laneIn l)).val true }).raiseEvent evLink
  else s

/-- The length of the run of error-free points at the front of a list. -/
def errorFree (l : List Nat) : Nat := (l.takeWhile fun n => n = 0).length

/-- The steps between the outermost error-free points that enclose the point at place `z` of a sweep; 0 where that point itself is not
error-free (R153; log 93). -/
def eyeSpan (l : List Nat) (z : Nat) : Nat :=
  if l[z]? = some 0 then errorFree (l.drop (z + 1)) + errorFree (l.take z).reverse else 0

/-- EYEH and EYEW of a lane: the spans of its worst eye (R153). -/
def eyeSizes (l : List EyeSweep) : Byte × Byte :=
  let least := fun (f : EyeSweep → Nat) => BitVec.ofNat 8 (((l.map f).min?).getD 0)
  (least fun e => eyeSpan e.volt 63, least fun e => eyeSpan e.phase 32)

/-- EYEH and EYEW of logical lanes from `i` on. -/
def LanePort.setEyes (q : LanePort) : Nat → List (List EyeSweep) → LanePort
  | _, [] => q
  | i, e :: r =>
    (if i < q.lanesOf then
      q.modLane (q.swap (Fin.ofNat 4 i)) fun x => { x with eyeH := (eyeSizes e).1, eyeW := (eyeSizes e).2 }
    else q).setEyes (i + 1) r

/-- SUMMARY_SCAN (R153, R154). -/
def summaryScan (p : MxNo) (eyes : List (List EyeSweep)) (s : State) : State :=
  let q := s.lanes[p]
  if q.stage = 7 && q.scan.isNone && s.fld .lane p.val (key 4 0) != 0 then s.modLn p fun q => q.setEyes 0 eyes else s

/-- The blocks of a full scan: lane and eye (R155, R156). -/
def Scan.blocks (c : Scan) : List (Nat × Nat) :=
  c.lanes.flatMap fun l => if c.rate = 0 then [(l, 3)] else c.eyes.map fun e => (l, e)

/-- The points of a block, phase-major: PH and V. -/
def Scan.points (c : Scan) : List (Int × Int) :=
  (List.range c.np).flatMap fun pi => (List.range c.nv).map fun vi =>
    (c.phMin + Int.ofNat (pi * c.phStep), c.vMin + Int.ofNat (vi * c.vStep))

/-- The FOM and the Plant Time at the start and at the end of a block (Table 6.9). -/
structure Stamps where
  fomStart : Byte
  fomEnd : Byte
  tStart : BitVec 64
  tEnd : BitVec 64
deriving DecidableEq, Repr

/-- The time that one eye of a lane takes, in ns: each point 2^DWELL unit intervals and 0.5 us (R154, Table 6.2). -/
def Scan.eyeTime (c : Scan) : Nat :=
  let ui := fun n => if c.rate = 2 then n / 56 else if c.rate = 1 then n / 28 else n * 32 / 825
  ui (c.np * c.nv * 2 ^ c.dwell) + c.np * c.nv * 500

/-- The FOM of a lane of the port at a Plant Time. -/
def Scan.fomAt (c : Scan) (i now : Nat) : Byte := ((c.foms.find? fun x => x.2.1 = i && x.1 ≤ now).map fun x => x.2.2).getD 0

/-- Where in the scan of its lane an eye stands: the eyes of a lane one after the other (R154). -/
def Scan.eyePlace (c : Scan) (eye : Nat) : Nat := if c.rate = 0 then 0 else c.eyes.findIdx fun e => e == eye

/-- The stamps of a block, `now` being the end of the scan: the last eye of a lane ends with it, and no eye starts or ends behind
it (log 35). -/
def Scan.stamps (c : Scan) (lane eye now : Nat) : Stamps :=
  let now := c.stopped.getD now
  let k := c.eyePlace eye
  let t0 := min now (c.started + k * c.eyeTime)
  let last := c.rate = 0 || k + 1 = c.eyes.length
  let t1 := if last then now else min now (c.started + (k + 1) * c.eyeTime)
  { fomStart := c.fomAt (lane % 4) t0, fomEnd := c.fomAt (lane % 4) t1, tStart := BitVec.ofNat 64 t0, tEnd := BitVec.ofNat 64 t1 }

/-- Word 0 of a block (Table 6.9). -/
def Scan.head (c : Scan) (lane eye result : Nat) (b : Stamps) : Data :=
  BitVec.ofNat 64 (lane + 2 ^ 4 * eye + 2 ^ 6 * result + 2 ^ 8 * c.np + 2 ^ 16 * c.nv + 2 ^ 24 * c.dwell +
    2 ^ 32 * b.fomStart.toNat + 2 ^ 40 * b.fomEnd.toNat + 2 ^ 48 * c.rate.toNat)

/-- The word of a point (Table 6.9). -/
def pointWord (errors : Option Nat) (pt : Int × Int) : Data :=
  let e : BitVec 32 := match errors with
    | some n => BitVec.ofNat 32 (min n 0xFFFFFFFE)
    | none => 0xFFFFFFFF
  (BitVec.ofInt 8 pt.2 ++ BitVec.ofInt 8 pt.1 ++ e).setWidth 64

/-- The words of one block: its stamps, and the decisions of the points measured. -/
def Scan.blockWords (c : Scan) (k : Nat × Nat) (b : Stamps) (errors : List Nat) : List Data :=
  let unfinished := errors.length < c.np * c.nv
  c.head k.1 k.2 (if unfinished then c.result.toNat else 0) b :: b.tStart :: b.tEnd ::
    c.points.zipIdx.map fun x => pointWord errors[x.2]? x.1

/-- The stamps of a block that the scan never started, for which the spec states no FOM and no time (log 7). -/
def freeStamps (l : List (BitVec 64)) : Stamps :=
  { fomStart := (l.getD 0 0).setWidth 8, fomEnd := (l.getD 1 0).setWidth 8, tStart := l.getD 2 0, tEnd := l.getD 3 0 }

/-- Words written by the scan from a word number on (R155). -/
def State.writeScan (s : State) : Nat → List Data → State
  | _, [] => s
  | w, d :: r => (s.unitWrite w (constWord d)).writeScan (w + 1) r

/-- The stamps of a block: by the lane's FOM and Plant Time, or free where nothing of it was measured. -/
def State.stampsOf (s : State) (c : Scan) (k : Nat × Nat) (errors : List Nat) : Stamps × State :=
  if errors.isEmpty then
    let d := s.drawN 4
    (freeStamps d.1, d.2)
  else (c.stamps k.1 k.2 s.plant, s)

/-- The blocks written in order. -/
def State.writeBlocks (c : Scan) : Nat → List (Nat × Nat) → List ScanBlock → State → State
  | _, [], _, s => s
  | w, k :: r, l, s =>
    let errors := (l.head?.map ScanBlock.errors).getD []
    let b := s.stampsOf c k errors
    State.writeBlocks c (w + 3 + c.np * c.nv) r l.tail (b.2.writeScan w (c.blockWords k b.1 errors))

/-- FULL_SCAN_COMPLETE: the blocks are written, then SCANSTAT shows 2 or 3 (R155, R156). -/
def fullScanComplete (p : MxNo) (blocks : List ScanBlock) (s : State) : State :=
  match s.lanes[p].scan with
  | none => s
  | some c =>
    (State.writeBlocks c (c.addr / 8) c.blocks blocks s).modLn p fun q =>
      { q with scan := none, scanStat := if c.result = 0 then 2 else 3 }

/-- A full scan stopped by a profile instruction or EXPERT OFF (R156). -/
def State.stopScan (s : State) (p : MxNo) : State := s.endScan p 2

/-! ### CDR lock (R421) -/

/-- CDR_LOCK_LOSS: the island runs on the transmit clock. -/
def cdrLockLoss (l : LaneNo) (s : State) : State := s.modLane l fun x => { x with locked := false }

/-- CDR_LOCK: the island runs on the recovered clock again. -/
def cdrLock (l : LaneNo) (s : State) : State :=
  if s.laneLive (lanePort l) then (s.modLane l fun x => { x with locked := true }).checkAdapt (lanePort l) else s

/-! ### Meanings -/

/-- TF_RECEIVE. -/
def execTfReceive (l : LaneNo) (tf : TrainFrame) (s : State) : Host.Outcome State Fault Refusal := .next (tfReceive l tf s)

/-- SIGNAL_DETECT. -/
def execSignalDetect (l : LaneNo) (s : State) : Host.Outcome State Fault Refusal := .next (signalDetect l s)

/-- SIGNAL_LOSS. -/
def execSignalLoss (l : LaneNo) (s : State) : Host.Outcome State Fault Refusal := .next (signalLoss l s).wake

/-- STAGE_TIMEOUT. -/
def execStageTimeout (l : LaneNo) (stage : Nat) (s : State) : Host.Outcome State Fault Refusal :=
  .next (stageTimeout l stage s)

/-- ADAPT_COMPLETE. -/
def execAdaptComplete (l : LaneNo) (s : State) : Host.Outcome State Fault Refusal := .next (adaptComplete l s)

/-- RUN_RESTART_WAIT_END. -/
def execRunRestartWaitEnd (p : MxNo) (s : State) : Host.Outcome State Fault Refusal := .next (runRestartWaitEnd p s)

/-- CODEWORD_RECEIVE. -/
def execCodewordReceive (p : MxNo) (cw : Codeword) (s : State) : Host.Outcome State Fault Refusal :=
  .next (codewordReceive p cw s).wake

/-- QUICK_RELOCK_TIMEOUT. -/
def execQuickRelockTimeout (p : MxNo) (s : State) : Host.Outcome State Fault Refusal := .next (quickRelockTimeout p s)

/-- LINK_FLIT_RECEIVE. -/
def execLinkFlitReceive (p : MxNo) (code : BitVec 6) (s : State) : Host.Outcome State Fault Refusal :=
  .next (linkFlitReceive p code s).wake

/-- LINK_FLITS_END. -/
def execLinkFlitsEnd (p : MxNo) (s : State) : Host.Outcome State Fault Refusal := .next (linkFlitsEnd p s).wake

/-- FOM_UPDATE. -/
def execFomUpdate (l : LaneNo) (num den : Nat) (s : State) : Host.Outcome State Fault Refusal :=
  .next (fomUpdate l num den s)

/-- FOMWARN_TIMEOUT. -/
def execFomwarnTimeout (l : LaneNo) (s : State) : Host.Outcome State Fault Refusal := .next (fomwarnTimeout l s)

/-- SUMMARY_SCAN. -/
def execSummaryScan (p : MxNo) (eyes : List (List EyeSweep)) (s : State) : Host.Outcome State Fault Refusal :=
  .next (summaryScan p eyes s)

/-- FULL_SCAN_COMPLETE. -/
def execFullScanComplete (p : MxNo) (blocks : List ScanBlock) (s : State) : Host.Outcome State Fault Refusal :=
  .next (fullScanComplete p blocks s).wake

/-- CDR_LOCK_LOSS. -/
def execCdrLockLoss (l : LaneNo) (s : State) : Host.Outcome State Fault Refusal := .next (cdrLockLoss l s)

/-- CDR_LOCK. -/
def execCdrLock (l : LaneNo) (s : State) : Host.Outcome State Fault Refusal := .next (cdrLock l s)

end Sys2Proof.Machine
end

