-- ==== Sys2Proof/Machine/Load.lean ====
section
/-! DEFINITION. The program load and the signature gate: the image format, the loader, verification, the warm-start check
(Table 3.18, R14, R76 to R78, R362, R405, R410 to R413). -/

namespace Sys2Proof.Machine

/-! ### Reading an image (Table 3.18) -/

/-- The little-endian number of `n` bytes at an offset. -/
def leAt (l : List Byte) (off n : Nat) : Nat := beNat ((l.drop off).take n).reverse

/-- Whether `n` bytes at an offset are 0. -/
def zerosAt (l : List Byte) (off n : Nat) : Bool := ((l.drop off).take n).all fun b => b = 0

/-- LENGTH of the image whose first bytes these are. -/
def imgLength (l : List Byte) : Nat := leAt l 0x10 4

/-- SECTIONS. -/
def imgSections (l : List Byte) : Nat := leAt l 0x14 2

/-- THREADS. -/
def imgThreads (l : List Byte) : BitVec 8 := l.getD 0x16 0

/-- ENTRY of a thread. -/
def imgEntry (l : List Byte) (t : Nat) : Nat := leAt l (0x18 + 4 * t) 4

/-- HANDLER of a thread. -/
def imgHandler (l : List Byte) (t : Nat) : Nat := leAt l (0x38 + 4 * t) 4

/-- The number of a silicon revision. -/
def Rev.number : Rev → Nat
  | .a => 1 | .b => 2

/-- The header's fields that LOADSTAT code 0x10 covers (Tables 3.18 and 15.11). -/
def headerOk (l : List Byte) : Bool :=
  leAt l 0 4 == 0x31494247 && leAt l 4 2 == 1 && leAt l 6 2 == 0 && leAt l 9 1 != 0 && zerosAt l 0x0A 2 &&
    decide (336 ≤ imgLength l) && decide (1 ≤ imgSections l) && decide (imgSections l ≤ 64) && (imgThreads l).getLsbD 0 &&
    zerosAt l 0x17 1 && decide (leAt l 0x58 1 < 4) && zerosAt l 0x59 7 && zerosAt l 0x64 28

/-- What the header check finds: 0x10, 0x11, or nothing (Table 15.11). -/
def headerCode (rev : Rev) (l : List Byte) : Option Byte :=
  if !headerOk l then some 0x10 else if leAt l 8 1 != 1 || decide (rev.number < leAt l 9 1) then some 0x11 else none

/-- The bytes of the header and the section table. -/
def tableEnd (l : List Byte) : Nat := 128 + 16 * imgSections l

/-- Entry i of the section table. -/
def sectionAt (l : List Byte) (i : Nat) : Section :=
  let o := 128 + 16 * i
  { type := leAt l o 1, load := leAt l (o + 4) 4, words := leAt l (o + 8) 4, offset := leAt l (o + 12) 4 }

/-- The sections. -/
def sectionsOf (l : List Byte) : List Section := (List.range (imgSections l)).map (sectionAt l)

/-- The bytes of payload that a word of a section takes: 9 of CODE, 8 of DATA and CONFIG, none of ZERO. -/
def Section.size (c : Section) : Nat := if c.type = 1 then 9 else if c.type = 4 then 0 else 8

/-- The Reservoir bytes of a section: first, and first beyond. -/
def Section.range (c : Section) : Nat × Nat := (c.load, c.load + 8 * c.words)

/-- Whether an entry alone is good (R76). -/
def Section.good (length table : Nat) (c : Section) : Bool :=
  decide (1 ≤ c.type) && decide (c.type ≤ 4) && c.load % 4096 == 0 && decide (c.range.2 ≤ 2 ^ 26) &&
    (if c.type = 4 then c.offset == 0
     else decide (table ≤ c.offset) && decide (c.offset + c.size * c.words ≤ length - 192))

/-- Whether no two of a list of sections overlap (R76). -/
def apart : List Section → Bool
  | [] => true
  | c :: r => (r.all fun d => decide (c.range.2 ≤ d.range.1) || decide (d.range.2 ≤ c.range.1)) && apart r

/-- Whether the section table is good: LOADSTAT code 0x12 otherwise. -/
def tableOk (l : List Byte) : Bool :=
  let cs := sectionsOf l
  (cs.all (Section.good (imgLength l) (tableEnd l))) &&
    ((List.range (imgSections l)).all fun i => zerosAt l (128 + 16 * i + 1) 3) && apart cs &&
    cs.any (fun c => c.type == 1) && decide ((cs.filter fun c => c.type == 3).length ≤ 1)

/-- Whether an IA lies within a CODE section (R76). -/
def inCode (cs : List Section) (ia : Nat) : Bool :=
  cs.any fun c => c.type == 1 && decide (c.load / 8 ≤ ia / 2) && decide (ia / 2 < c.load / 8 + c.words)

/-- Whether every started thread's ENTRY and every HANDLER is good: code 0x13 otherwise. -/
def entriesOk (l : List Byte) : Bool :=
  let cs := sectionsOf l
  (List.range 8).all fun t =>
    (!(imgThreads l).getLsbD t || inCode cs (imgEntry l t)) && (imgHandler l t == 0xFFFFFFFF || inCode cs (imgHandler l t))

/-- What the check of the section table finds. -/
def tableCode (l : List Byte) : Option Byte := if !tableOk l then some 0x12 else if !entriesOk l then some 0x13 else none

/-! ### The loader (R410, R411, R413) -/

/-- PHASE set, with HOSTPEND[2] (R409). -/
def State.setPhase (s : State) (p : Phase) : State :=
  if s.hcb.phase = p then s else { s with hcb := { s.hcb with phase := p, phaseChanged := true } }

/-- A load failed with a code: PHASE FAILED (R413, Table 15.11). -/
def State.loadFail (s : State) (code : Byte) : State :=
  ({ s with loader := { s.loader with stat := code, failures := s.loader.failures + 1, stream := [], fifo := [], clearing := true,
                                      record := none } }).setPhase .failed

/-- The Reservoir with 0 in every word; the counters of its banks stay (R27, R413). -/
def Reservoir.clear (r : Reservoir) : Reservoir := { r with data := [], tags := [], errs := [], pages := [] }

/-- A word of the image that the last byte of the stream has completed (R410): CODE words are 9 bytes, [71:64] first, the
others carry constant tag (R77). -/
def payloadWord (c : Section) (stream : List Byte) : Option (Nat × Word) :=
  let pos := stream.length - c.offset
  if c.size = 0 || stream.length ≤ c.offset || pos % c.size != 0 || c.size * c.words < pos then none
  else
    let l := stream.drop (stream.length - c.size)
    let x : Word := if c.type = 1 then BitVec.ofNat 72 (beNat l) else constWord (ofBytes fun i => l.getD i 0)
    some (c.load / 8 + pos / c.size - 1, x)

/-- The words that the last byte completes written. -/
def State.writePayload (s : State) (cs : List Section) (stream : List Byte) : State :=
  cs.foldl (fun s c => match payloadWord c stream with
    | some (w, x) => { s with res := s.res.putWord w x }
    | none => s) s

/-- The words of ZERO sections written (R410, R77). -/
def State.writeZeros (s : State) (cs : List Section) : State :=
  cs.foldl (fun s c =>
    if c.type = 4 then
      (List.range c.words).foldl (fun s i => { s with res := s.res.putWord (c.load / 8 + i) (constWord 0) }) s
    else s) s

/-- What a byte does once it has joined the stream: the header check, the table check, the payload, the end (R410). -/
def State.loadByte (s : State) (b : Byte) : State :=
  if s.hcb.phase != .receiving then s
  else
    let l := s.loader.stream ++ [b]
    let n := l.length
    let s := { s with loader := { s.loader with stream := l, received := s.loader.received + 1 } }
    if n < 128 then s
    else if n = 128 then
      match headerCode s.rev l with
      | some c => s.loadFail c
      | none => s
    else if n < tableEnd l then s
    else if n = tableEnd l then
      match tableCode l with
      | some c => s.loadFail c
      | none => s.writeZeros (sectionsOf l)
    else
      let s := s.writePayload (sectionsOf l) l
      if n = imgLength l then ({ s with loader := { s.loader with stat := 2 } }).setPhase .verifying else s

/-- Of bytes that arrive while others wait, those that are not beyond LENGTH as the header gives it: only they take space (R411). -/
def Loader.imageBytes (d : Loader) (l : List Byte) : List Byte :=
  let all := d.fifo ++ l
  if all.length < 128 then l else l.take (max 128 (imgLength all) - d.fifo.length)

/-- Bytes that arrive at LOADFIFO (R410, R411): taken at once, or held while the Reservoir is cleared; without space the load
ends. -/
def State.loadBytes (s : State) (l : List Byte) : State :=
  if s.hcb.phase != .receiving then s
  else if s.loader.clearing then
    let l := s.loader.imageBytes l
    if 4096 < s.loader.fifo.length + l.length then s.loadFail 0x19
    else { s with loader := { s.loader with fifo := s.loader.fifo ++ l } }
  else l.foldl State.loadByte s

/-- The free bytes of the FIFO. -/
def State.fifoSpace (s : State) : Nat := 4096 - s.loader.fifo.length

/-- START (R410). -/
def State.beginLoad (s : State) : State :=
  let busy := s.hcb.phase == .receiving || s.hcb.phase == .verifying
  if !busy && s.hcb.phase != .loader && s.hcb.phase != .failed then s
  else
    let d := s.loader
    ({ s with loader := { d with stream := [], fifo := [], received := 0, clearing := busy || d.clearing, stat := 1,
                                 failures := if busy then d.failures + 1 else d.failures, record := none },
              power := { s.power with warm := false } }).setPhase .receiving

/-- ABORT of a load in progress (Table 15.11). -/
def State.abortLoad (s : State) : State :=
  if s.hcb.phase = .receiving || s.hcb.phase = .verifying then s.loadFail 0x18 else s

/-- The clear of the Reservoir has ended: the new load takes its first byte (R410), or PHASE becomes LOADER (R413). -/
def State.clearDone (s : State) : State :=
  if !s.loader.clearing then s
  else
    let l := s.loader.fifo
    let s := { s with res := s.res.clear, loader := { s.loader with clearing := false, fifo := [] } }
    if s.hcb.phase = .failed then s.setPhase .loader else s.loadBytes l

/-! ### Verification (R76, R362, R412) -/

/-- The signature block's key and signature (text after Table 3.18). -/
def sigBlock (l : List Byte) : Nat × Nat × Nat × Nat :=
  let b := l.drop (l.length - 192)
  (beNat (b.take 48), beNat ((b.drop 48).take 48), beNat ((b.drop 96).take 48), beNat ((b.drop 144).take 48))

/-- SHA-384 as a number. -/
def shaNat (l : List Byte) : Nat := beNat (sha384 l)

/-- Whether a key is that of a programmed, unrevoked signer slot (R362). -/
def Otp.signerOk (o : Otp) (slot : Nat) (x y : Nat) : Bool :=
  match o.keyHash[Fin.ofNat 4 slot] with
  | some h => slot < 4 && !o.revoked.getLsbD slot && shaNat (beBytes 48 x ++ beBytes 48 y) == h.toNat
  | none => false

/-- Whether a signed string verifies under its signature block (R76, R361). -/
def signedOk (l : List Byte) : Bool :=
  let b := sigBlock l
  ecdsaVerify (shaNat (l.take (l.length - 192))) b.2.2.1 b.2.2.2 b.1 b.2.1

/-- What the end checks find, in the order of their codes. -/
def Otp.imageCode (o : Otp) (l : List Byte) : Option Byte :=
  let b := sigBlock l
  if !o.signerOk (leAt l 0x58 1) b.1 b.2.1 then some 0x14
  else if !signedOk l then some 0x15
  else if leAt l 0x60 4 < o.secVerMin then some 0x16
  else if o.life = .retired then some 0x17
  else none

/-- The pages that a byte range touches. -/
def pagesOf (r : Nat × Nat) : List Nat :=
  if r.2 ≤ r.1 then [] else (List.range ((r.2 - 1) / 4096 - r.1 / 4096 + 1)).map fun i => r.1 / 4096 + i

/-- The CONFIG section's Reservoir bytes: first address and words. -/
def configOf (cs : List Section) : Option (Nat × Nat) := (cs.find? fun c => c.type == 3).map fun c => (c.load, c.words)

/-- The bytes of the CONFIG section as they stand in the Reservoir. -/
def State.configBytes (s : State) (c : Option (Nat × Nat)) : List Byte :=
  match c with
  | none => []
  | some (a, n) => (List.range (8 * n)).map fun i => readByte s.res.data (a + i)

/-- The bytes of pages as the warm-start check hashes them. -/
def State.pageBytes (s : State) (pages : List Nat) : List Byte :=
  pages.flatMap fun p => (List.range 512).flatMap fun i => beBytes 9 (s.res.word (512 * p + i)).toNat

/-- The acceptance record of an image (R405, R78). -/
def State.recordOf (s : State) (l : List Byte) : Accepted :=
  let cs := sectionsOf l
  let pages := (cs.filter fun c => c.type == 1).flatMap fun c => pagesOf c.range
  { version := BitVec.ofNat 32 (leAt l 0x0C 4), secver := BitVec.ofNat 32 (leAt l 0x60 4),
    signer := BitVec.ofNat 2 (leAt l 0x58 1), digest := BitVec.ofNat 384 (shaNat (s.configBytes (configOf cs))),
    entries := (List.range 8).map (imgEntry l), handlers := (List.range 8).map fun t => BitVec.ofNat 32 (imgHandler l t),
    threads := imgThreads l, pages := pages, pageHash := BitVec.ofNat 384 (shaNat (s.pageBytes pages)), config := configOf cs }

/-- A thread started by the loader (R412, R44). -/
def Accepted.thread (a : Accepted) (t : Nat) (th : ThreadSt) : ThreadSt :=
  let th := { th with handler := a.handlers.getD t noHandler }
  if a.threads.getLsbD t then { th with run := .running, ia := BitVec.ofNat 24 (a.entries.getD t 0), statCause := 0 } else th

/-- An accepted image runs: page attributes, threads, PHASE RUN (R77, R412, R405). -/
def State.runImage (s : State) (a : Accepted) : State :=
  let s := allThreads.foldl (fun s t => s.modThread t fun _ => a.thread t.val ThreadSt.initial) s
  ({ s with res := { s.res with pages := a.pages },
            loader := { s.loader with stat := 3, signer := a.signer, record := some a, stream := [], clearing := false } }).setPhase .run

/-- LOAD_VERIFY_DONE (R412, R413). -/
def loadVerifyDone (s : State) : State :=
  if s.hcb.phase != .verifying || s.power.warm then s
  else match s.sec.otp.imageCode s.loader.stream with
    | some c => s.loadFail c
    | none => s.runImage (s.recordOf s.loader.stream)

/-- Whether the record still fits what the Reservoir and the fuses hold (R405). -/
def State.recordOk (s : State) (a : Accepted) : Bool :=
  shaNat (s.pageBytes a.pages) == a.pageHash.toNat && shaNat (s.configBytes a.config) == a.digest.toNat &&
    !s.sec.otp.revoked.getLsbD a.signer.toNat && decide (s.sec.otp.secVerMin ≤ a.secver.toNat)

/-- WARM_START_CHECK_DONE (R405). -/
def warmStartCheckDone (s : State) : State :=
  if s.hcb.phase != .verifying || !s.power.warm then s
  else
    let s := { s with power := { s.power with warm := false } }
    let failed := ({ s with loader := { s.loader with stat := 0x1A, clearing := true, record := none } }).setPhase .failed
    match s.loader.record with
    | none => failed
    | some a => if s.recordOk a then s.runImage a else failed

/-! ### Meanings -/

/-- LOAD_VERIFY_DONE. -/
def execLoadVerifyDone (s : State) : Host.Outcome State Fault Refusal := .next (loadVerifyDone s)

/-- FAILED_CLEAR_DONE. -/
def execFailedClearDone (s : State) : Host.Outcome State Fault Refusal := .next s.clearDone

/-- RESERVOIR_CLEAR_DONE. -/
def execReservoirClearDone (s : State) : Host.Outcome State Fault Refusal := .next s.clearDone

/-- WARM_START_CHECK_DONE. -/
def execWarmStartCheckDone (s : State) : Host.Outcome State Fault Refusal := .next (warmStartCheckDone s)

end Sys2Proof.Machine
end

