-- ==== Sys2Proof/Machine/Parene.lean ====
section
/-! DEFINITION. The port as master: arbitration, cycles, beats, outcomes, interrupts, enabling and external reset (R71, R126,
R189 to R201, R205 to R214, R225 to R227, R230, R239, R240, R243, R267, R268, R343). -/

namespace Sys2Proof.Machine

/-! ### Pins of an enabled port (R205, R206) -/

/-- An enabled and idle port: DIR 0, OE# low, IACK# and BG# high, the levels as they are. -/
def PbPins.idle (p : PbPins) : PbPins :=
  let q := p.setDir false
  { PbPins.highZ with oe := q.oe, dir := q.dir, turn := q.turn, iack := some true, bg := some true, irqLow := p.irqLow,
                      sysrstLow := p.sysrstLow }

/-- A port at high impedance: what it did on the backplane is over; levels driven stay recorded (R206, R243). -/
def Pb.highImpedance (b : Pb) : Pb :=
  { b with phase := .off, disabling := false, releasing := false, ext := .none, pins := PbPins.highZ, cyc := none,
           retryWait := false, br := false, granted := false, tenure := none, tenOver := false, abortNext := false, ownSince := 0,
           irqPend := 0, iackGap := 0, irqDrive := 0, irqRec := b.irqRec ||| b.irqDrive, tgt := .idle,
           acc := b.acc.filter fun a => a.delayed }

/-- The start of PORT ENABLE's sequence: the reset pulse where RSTPULSE asks for one, then the observation (R206, R207,
R249). -/
def Pb.beginEnable (pulse : Bool) (b : Pb) : Pb :=
  { b.newGens with phase := if pulse then .pulse else .observing,
                   pins := { b.pins.idle with irqLow := 0, sysrstLow := pulse } }

/-- The pins of a port released from high impedance, with or without the reset pulse of R207. -/
def State.releasePins (s : State) (n : PbNo) (pulse : Bool) : State :=
  (s.latchPb n).modPb n (Pb.beginEnable (pulse && s.fld .parene n.val (key 1 6) != 0))

/-! ### Jobs and cycles -/

/-- The journal entry of a job. -/
def State.jobEntry (s : State) (n : PbNo) (b : Job) : Option JEntry := b.jsn.bind (s.entry n)

/-- Whether a job's entry is RUNNING. -/
def State.jobRunning (s : State) (n : PbNo) (b : Job) : Bool :=
  match s.jobEntry n b with
  | some e => e.state == .running
  | none => false

/-- Whether nothing keeps a disabled port from high impedance: no cycle in progress, no RUNNING entry (R71). -/
def State.pbQuiet (s : State) (n : PbNo) : Bool :=
  let b := s.pb[n]
  b.cyc.isNone && b.tgt == .idle && !(b.jobs.head?.any (s.jobRunning n))

/-- A cycle boundary of a port that is being disabled: high impedance once nothing is in progress, and the sequence of a
PORT ENABLE that has come since (R71). -/
def State.boundary (s : State) (n : PbNo) : State :=
  if s.pb[n].disabling && s.pbQuiet n then
    let s := s.modPb n Pb.highImpedance
    if s.pb[n].enabled then s.releasePins n true else s
  else s

/-- The 18 bits that a job drives for Parene word `a` (R37, R40, R41). -/
def Pb.beatWord (b : Pb) (r : Req) (a : Nat) : BitVec 18 :=
  r.win.taken b.markSense b.markZero a (dataOf (r.words.getD ((r.win.location a).1 / 8 - r.addr / 8) 0))

/-- The lines of a mastered cycle with DS# low on word `a`: write data driven, or AD left to the target (Table 8.6, R205). -/
def Pb.driveBeat (b : Pb) (wr : Bool) (d : BitVec 18) : Pb :=
  { b with pins := { b.pins.setDir wr with asLow := true, dsLow := true, wrLow := !wr, ad := if wr then some d else none } }

/-- Whether the head job must follow in the same 72-bit word of a HOLD window in I/O space (R126). -/
def Job.midHold (b : Job) : Bool :=
  let w := b.req.win
  w.hold && w.io && (match b.blocks.head? with
    | none => false
    | some k =>
      ((spanned b.req.addr b.req.len).flatMap (w.wordsOf b.req.addr b.req.len)).any fun p =>
        p < k.start && (p - w.pbase) / 4 == (k.start - w.pbase) / 4)

/-- The job that may start its next cycle: the head, unless it waits under RTYWAIT, for the gate of R275, or behind a fence
(R198, R225, R274). -/
def State.readyJob (s : State) (n : PbNo) : Option Job :=
  let b := s.pb[n]
  match b.jobs with
  | [] => none
  | j :: _ =>
    if b.retryWait then none
    else match j.jsn with
      | none => some j
      | some k => if s.group.fenced || !s.gateOpen n k then none else some j

/-- The two address words of a cycle (R189, Table 8.3). -/
def addressWords (space : BitVec 2) (a beats : Nat) : BitVec 18 × BitVec 18 :=
  let w := fun x => space ++ BitVec.ofNat 4 (beats - 1) ++ BitVec.ofNat 12 x
  (w (a / 4096), w a)

/-- AD turned towards the backplane for the address words (Table 8.6, step 1). -/
def Pb.driveAddress (b : Pb) : Pb := { b with pins := b.pins.setDir true }

/-- A cycle counted and begun: its address words, and its first beat with them (R189, Tables 8.6 and 8.10). -/
def State.startCycle (s : State) (n : PbNo) (what : CycFor) (space : BitVec 2) (word beats : Nat) (wr : Bool) (d : BitVec 18) :
    State :=
  (((s.bumpPb n 3).bumpPb n 4)).modPb n fun b =>
    { (b.driveAddress.driveBeat wr d) with
        ownSince := b.ownSince + 1,
        cyc := some { what := what, aw := addressWords space word beats, word := word, left := beats, holdWait := false, release := false, ending := none } }

/-- The entry of a job that has not run yet, which the port reads before it starts the cycle (R268). -/
def State.freshEntry (s : State) (n : PbNo) (j : Job) : Option JEntry :=
  (s.jobEntry n j).filter fun e => e.state == .recorded

/-- A job's next cycle started; a journalled write's entry is read first, and RUNNING from then on (R24, R27, R267, R268). -/
def State.startBlock (s : State) (n : PbNo) (j : Job) (k : Block) : State :=
  let e? := s.freshEntry n j
  let bad := e?.any s.entryBad
  let s := (e?.map s.readEntry).getD s
  if bad then s.finalise n (j.jsn.getD 0) 7 k.start
  else
    let s := (e?.map fun e => s.modState n e.jsn fun e => { e with state := .running }).getD s
    let wr := rqWrites j.req.kind && !j.verify
    let k' := k.start + (k.beats - (k.beats - j.got.length))
    s.startCycle n .job (if j.req.win.io then 1 else 0) k' (k.beats - j.got.length) wr (s.pb[n].beatWord j.req k')

/-! ### Interrupt acknowledge (R212, R214, R239, R240) -/

/-- Whether the route of a level lets its IACK cycle run now (R212, R239, R240). -/
def State.iackOk (s : State) (r : Route) : Bool :=
  if r.isLocal then !tagValid (tagOf (s.res.deliver r.deliveryWord))
  else s.mxt[r.mxport].up && s.mxt[r.mxport].epid != 0 && s.vc0Room r.mxport

/-- The highest pending level whose IACK cycle may run, with its route (R210, R212, R214). -/
def State.iackFor (s : State) (n : PbNo) : Option (BitVec 3 × Route) :=
  let b := s.pb[n]
  [7, 6, 5, 4, 3, 2, 1].findSome? fun l =>
    if b.irqPend.getLsbD l && !b.iackGap.getLsbD l && !b.irqDrive.getLsbD l then
      match aget (routeKey n l 0) s.routes with
      | some r => if s.iackOk r then some (BitVec.ofNat 3 l, r) else none
      | none => none
    else none

/-- The INT data word (Table 7.9) with SET = 1. -/
def intData (vector : Byte) (level : BitVec 3) (n : PbNo) : Data :=
  (1#1 ++ BitVec.ofNat 2 n.val ++ level ++ vector).setWidth 64

/-- INT_SEND: one INT sent, or the delivery word written (R180, R239, R240); zeroised, neither (R388). -/
def State.sendInt (s : State) (n : PbNo) (level : BitVec 3) (r : Route) (vector : Byte) : State :=
  let d := intData vector level n
  if s.hcb.phase = .zeroised then s
  else if r.isLocal then s.unitWrite r.deliveryWord (mkWord (mkTag (portOrigin n) 3 true false) d)
  else s.queuePkt r.mxport 0 (.rq .int (plainReq (plainHdr ((s.freeTag r.mxport).getD 0) 0 8) r.addr.toNat [constWord d]))

/-! ### PARENE_CYCLE_START (R209, R210) -/

/-- Whether a port may start a cycle or grant the bus. -/
def Pb.atBoundary (b : Pb) : Bool :=
  b.phase == .normal && b.ext == .none && (b.enabled || b.disabling) && !b.releasing && b.cyc.isNone && !b.granted &&
    b.tenure.isNone && b.tgt == .idle

/-- A grant (R209). -/
def State.grantBus (s : State) (n : PbNo) : State :=
  (s.bumpPb n 13).modPb n fun b => { b with granted := true, pins := { b.pins with bg := some false } }

/-- The head job changed. -/
def State.modHead (s : State) (n : PbNo) (f : Job → Job) : State :=
  s.modPb n fun b => match b.jobs with
    | j :: r => { b with jobs := f j :: r }
    | [] => b

/-- A job's blocks cut for the BLKMAX now in force (R195, R216). What RETRY left of a block runs as one block (Table 8.11) unless
BLKMAX has come to forbid it. -/
def Job.recut (b : Job) (blkmax : Nat) : Job :=
  let rest := fun p => b.req.win.blocksFrom blkmax b.req.addr b.req.len p
  match b.blocks with
  | [] => b
  | k :: _ =>
    if b.got.isEmpty then { b with blocks := rest k.start }
    else if k.beats - b.got.length ≤ blkmax then { b with blocks := k :: rest (k.start + k.beats) }
    else match rest (k.start + b.got.length) with
      | [] => b
      | q :: t => { b with blocks := b.req.win.block b.req.addr b.req.len k.start (b.got.length + q.beats) :: t }

/-- The head job's next cycle, its blocks cut for the fields in force (R216). -/
def State.runHead (s : State) (n : PbNo) : State :=
  match (s.readyJob n).map fun j => j.recut (forced s.pb[n].inForce 7) with
  | some j =>
    let s := s.modHead n fun _ => j
    match j.blocks with
    | k :: _ => s.startBlock n j k
    | [] => s
  | none => s

/-- PARENE_CYCLE_START: what R210 chooses at a cycle boundary. -/
def pareneCycleStart (n : PbNo) (s : State) : State :=
  if !s.pb[n].atBoundary then s
  else
    let s := s.latchPb n
    let b := s.pb[n]
    if b.disabling then
      if b.jobs.head?.any (s.jobRunning n) then s.runHead n else s
    else if b.jobs.head?.any Job.midHold && (s.readyJob n).isSome then s.runHead n
    else
      let iack := s.iackFor n
      let own := iack.isSome || (s.readyJob n).isSome
      if b.br && (forced b.inForce (key 1 0) = 0 || !own || forced b.inForce (key 1 1) ≤ b.ownSince) then s.grantBus n
      else match iack with
        | some (l, r) =>
          (s.startCycle n (.iack l r) 2 l.toNat 1 false 0).modPb n fun b => { b with pins := { b.pins with iack := some false } }
        | none => s.runHead n

/-! ### The end of blocks and cycles (R196 to R199, R227, R230) -/

/-- The words of a verified entry differ from what was read (R276). -/
def Pb.verifyDiffers (b : Pb) (r : Req) (got : List (Nat × BitVec 18)) : Bool :=
  got.any fun g =>
    let x := b.beatWord r g.1
    if r.win.width = .wide18 then x != g.2 else x.extractLsb' 0 16 != g.2.extractLsb' 0 16

/-- The readback of R276 has ended: final with JOUT 10 or 9, or the entry runs again. -/
def State.verifyEnd (s : State) (n : PbNo) (j : Job) (o : CycOutcome) (word : Nat) : State :=
  if o != .ok then s.finalise n (j.jsn.getD 0) 9 word
  else if j.differs then
    (s.bumpJ 16).modHead n fun j =>
      { j with verify := false, differs := false,
               blocks := j.req.win.blocks (s.fld .parene n.val 7) j.req.addr j.req.len }
  else (s.bumpJ 15).finalise n (j.jsn.getD 0) 10 word

/-- A job with no block left has ended with the outcome OK. -/
def State.jobDone (s : State) (n : PbNo) (j : Job) (word : Nat) : State :=
  match j.jsn with
  | some k => s.finalise n k 1 word
  | none =>
    let s := s.dropJob n j.req.id
    if rqWrites j.req.kind then s.endWrite j .ok word else s.endReq j.req

/-- A block of the head job has ended (R169, R227): a read answers its part and goes on, a write stops at the first outcome
other than OK. -/
def State.blockEnd (s : State) (n : PbNo) (j : Job) (k : Block) (o : CycOutcome) (word : Nat) : State :=
  let rest := j.blocks.tail
  let done := fun (s : State) (j : Job) =>
    if j.blocks.isEmpty then s.jobDone n j word
    else if s.pb[n].disabling && j.jsn.isNone then s.endJob n j .timeout j.word
    else s
  let j' := { j with blocks := rest, got := [], markBad := false, retries := 0 }
  if j.verify then
    let j' := { j' with differs := j.differs || s.pb[n].verifyDiffers j.req j.got }
    let s := s.modHead n fun _ => j'
    if o != .ok || rest.isEmpty then s.verifyEnd n j' o word else s
  else if rqWrites j.req.kind then
    let s := s.modHead n fun _ => j'
    if o = .ok then done s j' else s.endJob n { j' with blocks := [] } o word
  else
    let p : Part :=
      { off := k.off, len := k.len, code := o.code, hint := 0,
        words := if o = .ok then j.req.win.readWords (s.pbTrust j.req.win) j.req.addr k j.got else [] }
    let s := s.modHead n fun _ => j'
    let s := s.answerPart j.req p
    let s := if o = .ok then s else s.breakOrder j.req
    done s j'

/-- The head job's running block. -/
def Pb.running? (b : Pb) : Option (Job × Block) :=
  match b.jobs with
  | j :: _ => j.blocks.head?.map fun k => (j, k)
  | [] => none

/-- A mastered cycle has got its outcome (R196): the block or the request ends with it; an IACK cycle ends without a vector. -/
def State.cycleOutcome (s : State) (n : PbNo) (c : MCycle) (o : CycOutcome) : State :=
  match c.what with
  | .iack l _ => s.modPb n fun b => { b with iackGap := setBit b.iackGap l.toNat true }
  | .job => match s.pb[n].running? with
    | some (j, k) => s.blockEnd n j k o c.word
    | none => s

/-- The cycle in progress replaced. -/
def State.setCyc (s : State) (n : PbNo) (c : Option MCycle) : State := s.modPb n fun b => { b with cyc := c }

/-- DS# driven high after a response (R191). -/
def Pb.endDs (b : Pb) : Pb :=
  { b with pins := { b.pins with dsLow := false, iack := b.pins.iack.map fun _ => true } }

/-- AS# released and the lines returned to idle (Table 8.6). -/
def Pb.endAs (b : Pb) : Pb := { b with cyc := none, pins := b.pins.idle }

/-- A cycle over at once, without response lines to wait for (R200, R208, R343). -/
def State.dropCycle (s : State) (n : PbNo) (c : MCycle) (o : CycOutcome) : State :=
  ((s.modPb n Pb.endAs).cycleOutcome n c o).boundary n

/-! ### BEAT_RESPONSE (R192, R197 to R199, R214) -/

/-- The four responses (Table 8.4); `none` when every line is high. -/
inductive Resp
  | done | retry | error | markErr
deriving DecidableEq, Repr

/-- The response of the lines found low. -/
def respOf (r : BeatLines) : Option Resp :=
  match r.ack, r.rty, r.berr with
  | false, false, false => none
  | true, false, false => some .done
  | false, true, false => some .retry
  | false, false, true => some .error
  | false, true, true => some .markErr
  | true, _, _ => some .error

/-- The counter of a response other than DONE (Table 8.10). -/
def Resp.counter : Resp → Nat
  | .retry => 5 | .error => 7 | _ => 8

/-- A cycle whose last beat has been evaluated: it ends once the response lines are high (R191). -/
def MCycle.end (c : MCycle) (o : CycOutcome) : MCycle := { c with release := true, ending := some o }

/-- Whether a read beat's marks fail (R36). -/
def Pb.marksBad (b : Pb) (w : Option Win) (ad : BitVec 18) : Bool :=
  !(w.any fun w => w.width == .wide18) && !marksPass b.markSense ad

/-- A read word sampled: PARERR, and PARITY unless marks are only counted (R43, R197). -/
def State.sampleRead (s : State) (n : PbNo) (word : Nat) (w : Win) (ad : BitVec 18) : State :=
  let bad := s.pb[n].marksBad (some w) ad
  let s := if bad then s.bumpPb n 9 else s
  s.modHead n fun j => { j with got := j.got ++ [(word, ad)], markBad := j.markBad || (bad && !s.pb[n].markCount) }

/-- A beat of a job answered DONE. -/
def State.beatDone (s : State) (n : PbNo) (c : MCycle) (j : Job) (k : Block) (ad : BitVec 18) : State :=
  let wr := rqWrites j.req.kind && !j.verify
  let s := s.modHead n fun j => { j with retries := 0 }
  let s := if wr then s.modHead n fun j => { j with got := j.got ++ [(c.word, 0)] } else s.sampleRead n c.word j.req.win ad
  if c.left ≤ 1 then
    let o : CycOutcome := match s.pb[n].running? with
      | some (j, _) => if j.markBad then .parity else .ok
      | none => .ok
    match s.pb[n].running? with
    | some (j, _) => (s.setCyc n (some (c.end o))).blockEnd n j k o c.word
    | none => s
  else s.setCyc n (some { c with word := c.word + 1, left := c.left - 1, release := true })

/-- A beat of a job answered RETRY (R198, R199). -/
def State.beatRetry (s : State) (n : PbNo) (c : MCycle) (j : Job) (k : Block) : State :=
  let hold := j.req.win.hold
  let max := forced s.pb[n].inForce (if hold then 6 else 5)
  if max ≤ j.retries then
    let s := s.setCyc n (some (c.end .timeout))
    if hold then s.blockEnd n j k .timeout c.word
    else if j.verify then s.verifyEnd n j .timeout c.word
    else s.endJob n j .timeout c.word
  else
    let s := s.modHead n fun j => { j with retries := j.retries + 1 }
    if hold then s.setCyc n (some { c with release := true, holdWait := true })
    else
      let s := (s.setCyc n (some (c.end .ok))).modPb n fun b => { b with retryWait := true }
      if s.pb[n].disabling && j.jsn.isNone then
        (s.modPb n fun b => { b with retryWait := false }).endJob n j .timeout c.word
      else s

/-- A beat of an IACK cycle answered (R214, R239). -/
def State.iackDone (s : State) (n : PbNo) (c : MCycle) (l : BitVec 3) (r : Route) (ad : BitVec 18) (resp : Resp) : State :=
  let bad := resp == .done && s.pb[n].marksBad none ad
  let s := if bad then s.bumpPb n 9 else s
  let s := s.modPb n fun b => { b with cyc := some (c.end .ok), iackGap := setBit b.iackGap l.toNat true }
  if resp != .done || (bad && !s.pb[n].markCount) then s else (s.sendInt n l r (ad.extractLsb' 0 8)).wake

/-- A response acted on. -/
def State.respond (s : State) (n : PbNo) (c : MCycle) (resp : Resp) (ad : BitVec 18) : State :=
  let s := (if resp = .done then s else s.bumpPb n resp.counter).modPb n Pb.endDs
  match c.what with
  | .iack l r => s.iackDone n c l r ad resp
  | .job => match s.pb[n].running? with
    | none => s.setCyc n (some (c.end .ok))
    | some (j, k) => match resp with
      | .done => s.beatDone n c j k ad
      | .retry => s.beatRetry n c j k
      | .error => (s.setCyc n (some (c.end .targetError))).blockEnd n j k .targetError c.word
      | .markErr => (s.setCyc n (some (c.end .parity))).blockEnd n j k .parity c.word

/-- What is left of a cycle whose port leaves the bus: the beat has completed, the block ends TIMEOUT, or is kept for the exit
from Doze (R400), and the port goes to high impedance (R343, R398). -/
def State.releaseBus (s : State) (n : PbNo) : State :=
  if !s.pb[n].releasing then s
  else
    let s := match s.pb[n].cyc with
      | some c => match c.ending, c.what with
        | none, .job => match s.pb[n].running? with
          | some (j, _) => if s.power.entering.isSome then s else s.endJob n j .timeout c.word
          | none => s
        | _, _ => s
      | none => s
    let s := s.modPb n Pb.highImpedance
    if s.pb[n].enabled && s.power.entering.isNone && s.clocked then s.releasePins n true else s

/-- Whether a card's beat is in progress on the port. -/
def TgtState.inBeat : TgtState → Bool
  | .data c => c.dsLow
  | .stray low => low
  | _ => false

/-- A port put at high impedance after the beat in progress, its own or a card's (R343, R388, R398). -/
def State.leaveBus (s : State) (n : PbNo) : State :=
  let b := s.pb[n]
  if b.phase = .off then s
  else
    let beat := match b.cyc with
      | some c => !c.release && !c.holdWait && b.pins.dsLow
      | none => b.tgt.inBeat
    let s := s.modPb n fun b => { b with releasing := true }
    if beat then s else s.releaseBus n

/-- The target's state once DS# is high. -/
def TgtState.endBeat : TgtState → TgtState
  | .data c => .data { c with dsLow := false }
  | .stray _ => .stray false
  | t => t

/-- A card's beat over: the level of an IACK beat and the lines released (R200, R204, R213, R241). -/
def Pb.endCardBeat (b : Pb) : Pb :=
  let b := match b.tgt with
    | .data c => b.endIack c
    | _ => b
  { b with pins := b.pins.endBeat, tgt := b.tgt.endBeat }

/-- CARD_DS_RISE (R200, R204, R213, R241); a port that leaves the bus does so now (R343, R398). -/
def cardDsRise (n : PbNo) (s : State) : State :=
  if !s.pb[n].observes || s.pb[n].cyc.isSome then s else (s.modPb n Pb.endCardBeat).releaseBus n

/-- BEAT_RESPONSE. -/
def beatResponse (n : PbNo) (r : BeatLines) (ad : BitVec 18) (s : State) : State :=
  match s.pb[n].cyc with
  | none => s
  | some c =>
    if c.release || !s.pb[n].pins.dsLow then s
    else match respOf r with
      | none => s
      | some resp => (s.respond n c resp ad).releaseBus n

/-- The next DS# fall of a cycle (R194). -/
def State.nextBeat (s : State) (n : PbNo) (c : MCycle) : State :=
  let s := (s.setCyc n (some { c with release := false, holdWait := false })).bumpPb n 4
  match s.pb[n].running? with
  | some (j, _) =>
    let wr := rqWrites j.req.kind && !j.verify
    s.modPb n fun b => b.driveBeat wr (b.beatWord j.req c.word)
  | none => s

/-- RESPONSE_RELEASE: every response line is high, so AS# rises or the next beat starts (R191, R194). -/
def responseRelease (n : PbNo) (s : State) : State :=
  match s.pb[n].cyc with
  | none => s
  | some c =>
    if !c.release then s
    else if c.ending.isSome then (s.modPb n Pb.endAs).boundary n
    else if c.holdWait then s.setCyc n (some { c with release := false })
    else s.nextBeat n c

/-- RETRY_WAIT_END: RTYWAIT has passed, an IACK cycle in progress or not (R198, R199). -/
def retryWaitEnd (n : PbNo) (s : State) : State :=
  match s.pb[n].cyc with
  | some c =>
    if c.holdWait then (if c.release then s.setCyc n (some { c with holdWait := false }) else s.nextBeat n c)
    else s.modPb n fun b => { b with retryWait := false }
  | none => s.modPb n fun b => { b with retryWait := false }

/-- BUS_TIMEOUT: a beat without a response at TIMEOUT (R200, R214). -/
def busTimeout (n : PbNo) (s : State) : State :=
  match s.pb[n].cyc with
  | some c =>
    if c.release || !s.pb[n].pins.dsLow then s
    else
      let s := s.bumpPb n 6
      let s := match c.what with
        | .iack _ _ => s.bumpPb n 12
        | .job => s
      (s.dropCycle n c .timeout).releaseBus n
  | none =>
    let b := s.pb[n]
    if !b.observes || b.pins.answering then s
    else match b.tgt with
      | .data c =>
        if c.dsLow then
          let s := (s.bumpPb n 10).answerBeat n .error
          if c.space = 2 then s.bumpPb n 12 else s
        else s
      | .stray low => if low then (s.bumpPb n 10).answerBeat n .error else s
      | _ => s

/-! ### Arbitration (R209, R211) -/

/-- BUS_REQUEST: BR# seen asserted, or released again (log 77); ignored while SYSRST# is low (R208, R209). -/
def busRequest (n : PbNo) (low : Bool) (s : State) : State :=
  if s.pb[n].listens then s.modPb n fun b => { b with br := low } else s

/-- GRANT_NOTAKE (R209). -/
def grantNotake (n : PbNo) (s : State) : State :=
  if s.pb[n].granted then
    (s.bumpPb n 14).modPb n fun b => { b with granted := false, pins := { b.pins with bg := some true } }
  else s

/-- CARD_TENURE_END (R211). -/
def cardTenureEnd (n : PbNo) (s : State) : State :=
  if s.pb[n].tenure.isSome && s.pb[n].tgt == .idle then
    (s.modPb n fun b => { b with tenure := none, tenOver := false, ownSince := 0, abortNext := false }).boundary n
  else s

/-- CARD_AS_RISE: from first to gap, or the end of a card cycle (R190). -/
def cardAsRise (n : PbNo) (s : State) : State :=
  match s.pb[n].tgt with
  | .first w wr => s.modPb n fun b => { b with tgt := .gap w wr }
  | .data _ => (s.modPb n Pb.endCard).boundary n
  | .stray _ => (s.modPb n Pb.endCard).boundary n
  | _ => s

/-! ### Interrupt levels (R212, R214) -/

/-- IRQ_PENDING; ignored while SYSRST# is low (R208, R212). -/
def irqPending (n : PbNo) (level : BitVec 3) (s : State) : State :=
  if s.pb[n].listens && level != 0 then s.modPb n fun b => { b with irqPend := setBit b.irqPend level.toNat true } else s

/-- IRQ_RELEASE (R214). -/
def irqRelease (n : PbNo) (level : BitVec 3) (s : State) : State :=
  s.modPb n fun b => { b with irqPend := setBit b.irqPend level.toNat false }

/-- IACKGAP_END (R212). -/
def iackgapEnd (n : PbNo) (level : BitVec 3) (s : State) : State :=
  s.modPb n fun b => { b with iackGap := setBit b.iackGap level.toNat false }

/-! ### Observation, reset pulse and external reset (R206 to R208, R243) -/

/-- The recorded levels driven (R243). -/
def Pb.driveLevels (b : Pb) : Pb :=
  { b with irqDrive := b.irqDrive ||| b.irqRec, irqRec := 0, pins := { b.pins with irqLow := b.irqDrive ||| b.irqRec } }

/-- The recorded levels driven at the end of the observation; in external reset, once normal operation resumes. -/
def Pb.driveUnlessReset (b : Pb) : Pb := if b.ext = .none then b.driveLevels else b

/-- OBSERVATION_END (R206, R243). -/
def observationEnd (n : PbNo) (s : State) : State :=
  match s.pb[n].phase with
  | .observing => s.modPb n fun b => { b.driveUnlessReset with phase := .normal }
  | .resetWait => s.modPb n fun b => { b.driveUnlessReset with phase := .observedWait }
  | _ => s

/-- RSTPULSE_END (R207). -/
def rstpulseEnd (n : PbNo) (s : State) : State :=
  if s.pb[n].phase = .pulse then
    s.modPb n fun b => { b with phase := .resetWait, pins := { b.pins with sysrstLow := false } }
  else s

/-- RESET_WAIT_END (R207). -/
def resetWaitEnd (n : PbNo) (s : State) : State :=
  match s.pb[n].phase with
  | .resetWait => s.modPb n fun b => { b with phase := .observing }
  | .observedWait => s.modPb n fun b => { b with phase := .normal }
  | _ => s

/-- A port in external reset (R208, R243): grant, tenure and interrupt state dropped, driven levels recorded. -/
def Pb.extReset (b : Pb) : Pb :=
  { b with ext := .low, cyc := none, retryWait := false, br := false, granted := false, tenure := none, tenOver := false,
           abortNext := false, irqPend := 0, iackGap := 0, irqRec := b.irqRec ||| b.irqDrive, irqDrive := 0, tgt := .idle,
           acc := b.acc.filter fun a => a.delayed, pins := { b.pins.idle with irqLow := 0 } }

/-- SYSRST_LOW, in the 1 ms after an earlier one too (R208): the cycle in progress and the requests at the cycle stage end TIMEOUT. -/
def sysrstLow (n : PbNo) (s : State) : State :=
  let b := s.pb[n]
  if !b.listens || b.pins.sysrstLow then s
  else
    let s := s.bumpPb n 16
    let s := match b.cyc with
      | some c => if c.ending.isSome then s.modPb n Pb.endAs else s.dropCycle n c .timeout
      | none => s
    if s.pb[n].phase = .off then s
    else
      let s := s.modPb n Pb.extReset
      (State.failJobs n s.pb[n].jobs.length s).boundary n

/-- SYSRST_RISE (R208). -/
def sysrstRise (n : PbNo) (s : State) : State :=
  if s.pb[n].ext = .low then s.modPb n fun b => { b with ext := .wait } else s

/-- SYSRST_RESUME (R208, R243, R249). -/
def sysrstResume (n : PbNo) (s : State) : State :=
  if s.pb[n].ext = .wait then
    s.modPb n fun b =>
      let b := { b with ext := .none }.newGens
      if b.drives then b.driveLevels else b
  else s

/-! ### PORT ENABLE and PORT DISABLE of a Parene port (R71, R206, R335) -/

/-- PORT ENABLE (R71, R206, R335): on a group port the pins are released only while the member is its steward. -/
def State.enablePb (s : State) (n : PbNo) : State :=
  if s.pb[n].enabled then s
  else
    let s := s.modPb n fun b => { b with recorded := true }
    if s.group.joined && (s.group.fenced || s.group.takeover[n].isSome || s.stewardOf n != some s.self) then s
    else
      let s := s.modPb n fun b => { b with enabled := true }
      if s.pb[n].disabling || s.pb[n].releasing then s else s.releasePins n true

/-- Requests that wait at check 9 answered 0x3 at once (R71). -/
def State.refuseWaiting (s : State) (n : PbNo) : State :=
  s.pb[n].waiting.foldl (fun s w => ((s.giveBack n w).bumpWeir n 23).refuse w.req 3 0) s

/-- The cycles of a job that have not started: the whole job, or the blocks after the one in progress (R71). -/
def State.cutJob (s : State) (n : PbNo) (j : Job) : State :=
  if j.jsn.isSome then s
  else if s.pb[n].cyc.any (fun c => c.what == .job && c.ending.isNone) && s.pb[n].jobs.head?.map (fun h => h.req.id) = some j.req.id
  then s
  else s.endJob n j .timeout j.word

/-- PORT DISABLE (R71, R243, R272). -/
def State.disablePb (s : State) (n : PbNo) : State :=
  if !s.pb[n].recorded then s
  else
    let was := s.pb[n].enabled
    let s := s.modPb n fun b => { b with enabled := false, recorded := false, disabling := was || b.disabling, retryWait := false }
    let s := s.refuseWaiting n
    let s := (s.jsnsOf n fun e => e.state == .recorded && !e.mirrored).foldl (fun s k => s.finaliseAtStart n k 6) s
    let s := s.pb[n].jobs.foldl (fun s j => s.cutJob n j) s
    s.boundary n

/-! ### Meanings -/

/-- PARENE_CYCLE_START. -/
def execPareneCycleStart (n : PbNo) (s : State) : Host.Outcome State Fault Refusal := .next (pareneCycleStart n s).wake

/-- BEAT_RESPONSE. -/
def execBeatResponse (n : PbNo) (r : BeatLines) (ad : BitVec 18) (s : State) : Host.Outcome State Fault Refusal :=
  .next (beatResponse n r ad s).wake

/-- RESPONSE_RELEASE. -/
def execResponseRelease (n : PbNo) (s : State) : Host.Outcome State Fault Refusal := .next (responseRelease n s)

/-- BUS_TIMEOUT. -/
def execBusTimeout (n : PbNo) (s : State) : Host.Outcome State Fault Refusal := .next (busTimeout n s).wake

/-- RETRY_WAIT_END. -/
def execRetryWaitEnd (n : PbNo) (s : State) : Host.Outcome State Fault Refusal := .next (retryWaitEnd n s)

/-- BUS_REQUEST. -/
def execBusRequest (r : BusReq) (s : State) : Host.Outcome State Fault Refusal := .next (busRequest r.port r.low s)

/-- GRANT_NOTAKE. -/
def execGrantNotake (n : PbNo) (s : State) : Host.Outcome State Fault Refusal := .next (grantNotake n s)

/-- CARD_TENURE_END. -/
def execCardTenureEnd (n : PbNo) (s : State) : Host.Outcome State Fault Refusal := .next (cardTenureEnd n s)

/-- CARD_DS_RISE. -/
def execCardDsRise (n : PbNo) (s : State) : Host.Outcome State Fault Refusal := .next (cardDsRise n s)

/-- CARD_AS_RISE. -/
def execCardAsRise (n : PbNo) (s : State) : Host.Outcome State Fault Refusal := .next (cardAsRise n s)

/-- IRQ_PENDING. -/
def execIrqPending (n : PbNo) (level : BitVec 3) (s : State) : Host.Outcome State Fault Refusal :=
  .next (irqPending n level s)

/-- IRQ_RELEASE. -/
def execIrqRelease (n : PbNo) (level : BitVec 3) (s : State) : Host.Outcome State Fault Refusal :=
  .next (irqRelease n level s)

/-- IACKGAP_END. -/
def execIackgapEnd (n : PbNo) (level : BitVec 3) (s : State) : Host.Outcome State Fault Refusal :=
  .next (iackgapEnd n level s)

/-- RSTPULSE_END. -/
def execRstpulseEnd (n : PbNo) (s : State) : Host.Outcome State Fault Refusal := .next (rstpulseEnd n s)

/-- RESET_WAIT_END. -/
def execResetWaitEnd (n : PbNo) (s : State) : Host.Outcome State Fault Refusal := .next (resetWaitEnd n s)

/-- SYSRST_LOW. -/
def execSysrstLow (n : PbNo) (s : State) : Host.Outcome State Fault Refusal := .next (sysrstLow n s).wake

/-- SYSRST_RISE. -/
def execSysrstRise (n : PbNo) (s : State) : Host.Outcome State Fault Refusal := .next (sysrstRise n s)

/-- SYSRST_RESUME. -/
def execSysrstResume (n : PbNo) (s : State) : Host.Outcome State Fault Refusal := .next (sysrstResume n s)

end Sys2Proof.Machine
end

