-- ==== Sys2Proof/Machine/Group.lean ====
section
/-! DEFINITION. Bridge groups and Plant Time: agreement, views, fencing, stewards, takeover, forwarding, mirrored records, time
(Chapter 13, R275, R276, R369). -/

namespace Sys2Proof.Machine

/-! ### Ranks and agreement (R333, R338, Table 13.4) -/

/-- A member's steward priority as this member knows it. -/
def State.prioOf (s : State) (m : Fin 4) : Nat :=
  if m = s.self then s.group.prio.toNat
  else match s.group.peers[m].hello with
    | some h => h.prio.toNat
    | none => 0

/-- Rank as a number, higher first (R333). -/
def State.rank (s : State) (m : Fin 4) : Nat := 4 * s.prioOf m + (3 - m.val)

/-- The highest-ranked of some members. -/
def State.topOf (s : State) (l : List (Fin 4)) : Option (Fin 4) := l.find? fun m => l.all fun k => s.rank k ≤ s.rank m

/-- The Parene ports present, one bit each (R2). -/
def State.pbMask (s : State) : Nat := if s.part = .gx7204 then 15 else 3

/-- The configuration digest of the running image (R78). -/
def State.digest (s : State) : BitVec 384 :=
  match s.loader.record with
  | some a => a.digest
  | none => 0

/-- VERSION of the running image. -/
def State.version (s : State) : BitVec 32 :=
  match s.loader.record with
  | some a => a.version
  | none => 0

/-- CAND0 to CAND3 as HELLO carries them. -/
def State.cands (s : State) : BitVec 16 :=
  s.candField 3 ++ s.candField 2 ++ s.candField 1 ++ s.candField 0

/-- This member's HELLO (Table 13.3). -/
def State.helloBody (s : State) : HelloBody :=
  { digest := s.digest, compat := 1, rev := BitVec.ofNat 4 s.rev.number, ports := BitVec.ofNat 4 s.pbMask, prio := s.group.prio,
    n1 := s.group.n1, version := s.version, cands := s.cands, takeUnm := s.fld .group 0 (key 1 4) == 1,
    verMatch := BitVec.ofNat 2 (s.fld .group 0 (key 1 5)), group := s.group.gid }

/-- Whether two VERSIONs agree under VERMATCH (Table 13.4). -/
def versionAgrees (mode : BitVec 2) (a b : BitVec 32) : Bool :=
  match mode.toNat with
  | 0 => a.extractLsb' 16 16 == b.extractLsb' 16 16
  | 1 => a == b
  | _ => a.extractLsb' 24 8 == b.extractLsb' 24 8

/-- Whether neither this member nor a peer with these ports is a candidate for a port that it lacks (Table 13.4). -/
def State.candsPresent (s : State) (m : Fin 4) (ports : BitVec 4) : Bool :=
  allPb.all fun n =>
    let f := s.candField n
    (!f.getLsbD m.val || ports.getLsbD n.val) && (!f.getLsbD s.self.val || s.hasPb n.val)

/-- Whether a HELLO under an index of the installed view comes from another device than the member there (Table 13.4, reason
5). -/
def State.claimsTaken (s : State) (m : Fin 4) (epoch : BitVec 32) (b : HelloBody) : Bool :=
  m = s.self ||
    (s.group.view.getLsbD m.val &&
      (s.group.peers[m].hello != some b || (epoch == 0 && s.group.peers[m].lastEpoch == s.group.epoch)))

/-- One peer changed. -/
def State.modPeer (s : State) (m : Fin 4) (f : Peer → Peer) : State :=
  { s with group := { s.group with peers := vmod s.group.peers m f } }

/-- The items of Table 13.4 that do not hold; CANDn under a profile is what it is once this HELLO has been heard. -/
def State.disagreements (s : State) (k : GrpPkt) (b : HelloBody) : List Nat :=
  let m : Fin 4 := k.sender.toFin
  let h := s.modPeer m fun p => { p with hello := some b }
  let own := h.helloBody
  let l : List (Nat × Bool) :=
    [(1, b.digest == own.digest), (2, versionAgrees own.verMatch b.version own.version), (3, b.compat == own.compat),
     (4, b.n1 == own.n1), (5, !s.claimsTaken m k.epoch b),
     (6, b.group == own.group && k.addr == s.group.gaddr + BitVec.ofNat 48 (64 * s.self.val)),
     (7, b.cands == own.cands && b.takeUnm == own.takeUnm && b.verMatch == own.verMatch && h.candsPresent m b.ports)]
  (l.filter fun x => !x.2).map Prod.fst

/-- A reason reported once for each peer: DISAGREE, LASTDIS and the GROUP event (R338). -/
def State.reportReason (m : Fin 4) (s : State) (r : Nat) : State :=
  if s.group.peers[m].reported.getLsbD r then s
  else
    let s := s.modPeer m fun p => { p with reported := setBit p.reported r true }
    let s : State := { s with group := { s.group with lastDis := BitVec.ofNat 8 (m.val + 16 * r) } }
    (s.bumpGrp 6).raiseEvent evGroup

/-! ### Heartbeats, views, support (R339 to R343) -/

/-- SEEN (R339). -/
def State.seen (s : State) : BitVec 4 :=
  s.otherMembers.foldl (fun f m => if s.group.peers[m].agrees && s.group.peers[m].alive then setBit f m.val true else f)
    (setBit 0 s.self.val true)

/-- The configured members. -/
def State.allConfigured (s : State) : List (Fin 4) := allMembers.filter fun m => m.val ≤ s.group.n1.toNat

/-- Whether a mask has quorum with the HELLOs heard since GROUPJOIN (R341). -/
def State.hasQuorum (s : State) (m : BitVec 4) : Bool :=
  s.quorum m (s.topOf s.allConfigured) (s.otherMembers.all fun k => s.group.peers[k].hello.isSome)

/-- The members that support the installed view (R342). -/
def State.supporters (s : State) : BitVec 4 :=
  s.otherMembers.foldl (fun f m =>
      match s.group.peers[m].confAt with
      | some t => if s.plant ≤ t + 1000 * forced s.group.inForce 1 then setBit f m.val true else f
      | none => f)
    (setBit 0 s.self.val true)

/-- Whether the member is fenced (R343). -/
def State.shouldFence (s : State) : Bool :=
  s.group.joined && !(s.hasQuorum s.group.view && s.hasQuorum s.supporters)

/-- GSTATE (Table 13.9). -/
def State.gstate (s : State) : BitVec 3 :=
  if !s.group.joined then 0 else if !s.group.admitted then 1 else if s.group.fenced then 3 else 2

/-! ### A port lost (R343, R344, R348) -/

/-- The job of a discarded entry goes on as one without a record, or not at all where its requester has its answer. -/
def State.unrecord (s : State) (n : PbNo) (j : Job) : State :=
  if j.jsn.isNone then s
  else if j.answered then (s.dropJob n j.req.id).endReq j.req
  else s.modPb n fun b => { b with jobs := b.jobs.map fun k => if k.req.id = j.req.id then { k with jsn := none } else k }

/-- Every entry of a port discarded without an outcome (R344). -/
def State.discardEntries (s : State) (n : PbNo) : State :=
  let l := s.journal.entries.filter fun e => e.port = n
  let s : State := { s with journal := { s.journal with entries := s.journal.entries.filter fun e => e.port != n } }
  let s : State := { s with group := { s.group with cnt := bumpBy 11 l.length s.group.cnt } }
  let s := s.pb[n].jobs.foldl (fun s j => s.unrecord n j) s
  let s := (l.flatMap JEntry.answers).foldl (fun s r => s.refuse r 6 0) s
  s.endWaits

/-- A request that waits at check 9 of a port that has no steward here any more (R343). -/
def State.fenceWaiting (s : State) (n : PbNo) : State :=
  s.pb[n].waiting.foldl (fun s w => (s.giveBack n w).refuse w.req 4 0) s

/-- The levels that a port drives released, none of them recorded (R348). -/
def Pb.dropLevels (b : Pb) : Pb := { b with irqDrive := 0, irqRec := 0, pins := { b.pins with irqLow := 0 } }

/-- A group port left: no cycle starts, the beat in progress completes, high impedance; the enable stays recorded (R335,
R343). -/
def State.leavePort (s : State) (n : PbNo) : State :=
  let s := s.modPb n fun b => { b.dropLevels with enabled := false, retryWait := false }
  let s := s.fenceWaiting n
  let s := s.pb[n].jobs.foldl (fun s j => s.cutJob n j) s
  s.leaveBus n

/-- Whether a port has an unmirrored journalled window (R351). -/
def State.unmirrored (s : State) (n : PbNo) : Bool :=
  !s.mirrorOn && s.windows.any fun w => w.2.dir == .inbound && w.2.port = n && w.2.jrnl

/-- A steward gone (R351): the port waits for its return where its journal was not mirrored. -/
def State.stewardGone (s : State) (n : PbNo) : State :=
  let g := s.group
  let lost := if s.unmirrored n && s.fld .group 0 (key 1 4) = 0 then g.stewards[n].map some else none
  { s with group := { g with stewards := g.stewards.set n none, takeover := g.takeover.set n none, lostBy := g.lostBy.set n lost } }

/-- This member fences itself: it leaves every port, and the entries of those it was steward of are discarded (R343, R344). -/
def State.fencePort (s : State) (n : PbNo) : State :=
  if s.stewardOf n = some s.self then (s.discardEntries n).stewardGone n |>.leavePort n
  else if s.pb[n].enabled then s.leavePort n else s

/-- Fencing follows from the view and the heartbeats (R343). -/
def State.updateFence (s : State) : State :=
  let f := s.shouldFence
  let was := s.group.fenced
  let s : State := { s with group := { s.group with fenced := f,
                                                    admitted := s.group.admitted || (s.group.joined && s.hasQuorum s.group.view) } }
  if f && !was then allPb.foldl State.fencePort s else s

/-! ### Stewards and takeover (R335, R336, R349 to R351) -/

/-- Whether a peer's last heartbeat names a member as steward of a port. -/
def Peer.names (p : Peer) (n : PbNo) (m : Fin 4) : Bool :=
  p.svalid.getLsbD n.val && (p.stew.extractLsb' (2 * n.val) 2).toNat == m.val

/-- Whether a peer of the view says that it is steward of a port. -/
def State.claimant (s : State) (n : PbNo) : Option (Fin 4) :=
  s.otherMembers.find? fun m => s.group.view.getLsbD m.val && !s.group.peers[m].left && s.group.peers[m].names n m

/-- Whether a member is still steward of a port (R336, R349): in the view, and not a peer that has sent LEAVE or says under this epoch
that it is not. -/
def State.keepsPort (s : State) (n : PbNo) (m : Fin 4) : Bool :=
  if m = s.self then !s.group.fenced && s.group.view.getLsbD m.val
  else
    s.group.view.getLsbD m.val && !s.group.peers[m].left &&
      (s.group.peers[m].lastEpoch != s.group.epoch || s.group.peers[m].names n m)

/-- Whether a time state counts as OUT (R352). -/
def timeOut (x : BitVec 3) : Bool := x == 1 || x == 4

/-- Whether a peer of the view names this member as steward of a port: it knows whose port it was (R351). -/
def State.called (s : State) (n : PbNo) : Bool :=
  s.otherMembers.any fun m =>
    s.group.view.getLsbD m.val && s.group.peers[m].lastEpoch == s.group.epoch && s.group.peers[m].names n s.self

/-- Whether a port that lost its steward may have a member as its next one (R351): the one it lost, or any where its journalled
windows are mirrored or TAKEUNMIRRORED says so. -/
def State.mayTakeLost (s : State) (n : PbNo) (m : Fin 4) : Bool :=
  match s.group.lostBy[n] with
  | none => true
  | some k => k.map BitVec.toFin == some m || !(s.unmirrored n && s.fld .group 0 (key 1 4) == 0) || (m = s.self && s.called n)

/-- Whether a member can become steward of a port (R336, R351, R355). Of a peer's enable and mirrored records this member knows
only that a heartbeat under this epoch names no steward. -/
def State.eligible? (s : State) (n : PbNo) (m : Fin 4) : Bool :=
  let g := s.group
  (s.candidates n).getLsbD m.val && g.view.getLsbD m.val &&
    s.mayTakeLost n m &&
    (if m = s.self then
      s.pb[n].recorded && !timeOut s.time.state && (!s.mirrorOn || g.mirrorGot.getLsbD n.val) && !g.fenced
    else
      !g.peers[m].left && !timeOut g.peers[m].tstate &&
        !(g.peers[m].lastEpoch == g.epoch && !g.peers[m].svalid.getLsbD n.val))

/-- The wait of step 3 of Table 13.5 in microseconds. -/
def State.takeoverWait (s : State) (n : PbNo) : Nat :=
  max (forced s.group.inForce 2) (forced s.group.inForce 1 + s.fld .parene n.val 2 + 100)

/-- A new steward of a port: takeover with a wait in microseconds, or at once (R335, R349, Table 13.5). -/
def State.newSteward (s : State) (n : PbNo) (m : Fin 4) (wait : Option Nat) : State :=
  let g := s.group
  let end_ := wait.map fun w => s.plant + 1000 * (w + 1)
  let s : State := { s with group := { g with stewards := g.stewards.set n (some (BitVec.ofNat 2 m.val)),
                                              takeover := g.takeover.set n end_, lostBy := g.lostBy.set n none } }
  if m != s.self then s
  else
    let s := s.bumpGrp 8
    if wait.isSome then s
    else
      let s := s.modPb n fun b => { b with enabled := b.recorded }
      if s.pb[n].enabled && !s.pb[n].releasing && s.pb[n].phase == .off then s.releasePins n false else s

/-- The steward of a port decided again (R336). -/
def State.updateSteward (wait : Option Nat) (s : State) (n : PbNo) : State :=
  let kept : Bool := match s.stewardOf n with
    | some m => s.keepsPort n m
    | none => false
  if kept then s
  else
    let own := s.stewardOf n == some s.self
    let s := if (s.stewardOf n).isSome then s.stewardGone n else s
    let s := if own then s.leavePort n else s
    match s.claimant n with
    | some m => s.newSteward n m none
    | none =>
      if s.group.fenced then s
      else match s.topOf (allMembers.filter (s.eligible? n)) with
        | some m => s.newSteward n m (wait.map fun w => if w = 0 then s.takeoverWait n else w)
        | none => s

/-- Stewards of every port. -/
def State.updateStewards (wait : Option Nat) (s : State) : State :=
  if s.group.joined then allPb.foldl (State.updateSteward wait) s else s

/-! ### Time states (R352 to R355) -/

/-- Whether a member's fabric source is locked (R356). -/
def TimeSt.locked (t : TimeSt) : Bool := t.fabric.length == 4 && t.fabric.all fun o => o.natAbs ≤ 8

/-- The time reference of the installed view. -/
def State.referenceOf (s : State) : Option (Fin 4) :=
  let l := allMembers.filter fun m => s.group.view.getLsbD m.val
  let locked := l.filter fun m => if m = s.self then s.time.locked else s.group.peers[m].locked
  if locked.isEmpty then s.topOf l else s.topOf locked

/-- Whether this member is the time reference. -/
def State.isReference (s : State) : Bool := s.referenceOf == some s.self

/-- The state of Table 13.6. -/
def State.timeState (s : State) : BitVec 3 :=
  if !s.group.joined then 0
  else if s.isReference then 5
  else if 16 ≤ s.time.probesLost then 4
  else if s.time.offsets.length < 4 then 1
  else if s.time.offsets.any fun o => 1000 < o.natAbs then 4
  else if s.time.offsets.any fun o => 8 < o.natAbs then 3
  else 2

/-- TIMESTATE; a change raises the GROUP event (R353). -/
def State.setTimeState (s : State) : State :=
  let x := s.timeState
  if x = s.time.state then s
  else ({ s with time := { s.time with state := x } }).raiseEvent evGroup

/-- The offsets measured to a reference that has changed are none (R352). -/
def State.updateTime (s : State) : State :=
  let r := (s.referenceOf.getD 0).val
  let s := if s.group.joined && r != s.time.reference.toNat then
      { s with time := { s.time with reference := BitVec.ofNat 2 r, offsets := [], probesLost := 0, steer := 0,
                                     echoTx := BitVec.allOnes 64, echoRx := 0 } } else s
  s.setTimeState

/-- Plant Time stepped: every time that the group measures against it moves with it. -/
def State.stepTime (s : State) (by_ : Int) : State :=
  let move := fun (n : Nat) => ((n : Int) + by_).toNat
  { s with time := { s.time with now := s.time.now + BitVec.ofInt 64 by_, steer := 0 },
           group := { s.group with takeover := s.group.takeover.map fun t => t.map move,
                                   peers := s.group.peers.map fun (p : Peer) => { p with confAt := p.confAt.map move } } }

/-- Whether this member is steward of any port. -/
def State.stewardsAny (s : State) : Bool := s.group.joined && allPb.any fun n => s.stewardOf n == some s.self

/-- A member in OUT that stewards no port steps once to the reference and acquires anew (R354). -/
def State.stepOut (s : State) : State :=
  if s.time.state = 4 && s.time.probesLost < 16 && !s.stewardsAny && forced s.time.inForce 0 != 2 then
    let s := s.stepTime (s.time.offsets.headD 0)
    ({ s with time := { s.time with offsets := [], tsteps := s.time.tsteps + 1 } }).setTimeState
  else s

/-! ### Views (R340) -/

/-- Everything that follows from the group's state. `wait` is what a takeover that now starts waits in microseconds, 0 for the
full wait of step 3. -/
def State.settleGroup (s : State) (wait : Option Nat) : State :=
  (s.updateFence.updateTime.updateStewards wait).wake

/-- A record that the mirror peers do not have yet, sent to them (R275). -/
def State.resend (n : PbNo) (s : State) (e : JEntry) : State :=
  let peers := s.mirrorPeers n
  let s := s.mirrorRecord? e (peers &&& ~~~e.recAck)
  if e.state = .final then
    (members (peers &&& ~~~e.outAck)).foldl
      (fun s m => s.sendGrp m 0 (.jout (BitVec.ofNat 48 e.jsn) e.jout (BitVec.ofNat 2 n.val))) s
  else s

/-- The entries of the ports this member is steward of, brought to the mirror peers of a new view (R275). -/
def State.remirror (s : State) : State :=
  allPb.foldl (fun s n =>
    if s.stewardOf n != some s.self then s
    else (s.journal.entries.filter fun e => e.port = n && !e.mirrored).foldl (State.resend n) s) s

/-- What a member knows of a peer as a view is installed: a member of it has confirmed it by the acknowledgement that the COMMIT
stands for (R342; log 64). -/
def State.confirmPeer (mask : BitVec 4) (s : State) (m : Fin 4) : State :=
  s.modPeer m fun p => { p with confAt := if mask.getLsbD m.val then some s.plant else none }

/-- The ports that lost their stewards before this member came (R351): a member of the view has had a view, and names no steward. -/
def State.lostBefore (s : State) (mask : BitVec 4) : Vector (Option (Option (BitVec 2))) 4 :=
  let old := (members (mask &&& ~~~(1#4 <<< s.self.val))).filter fun m => s.group.peers[m].lastEpoch != 0
  Vector.ofFn fun n =>
    if old.any fun m => !s.group.peers[m].svalid.getLsbD n.val then
      (if s.unmirrored n && s.fld .group 0 (key 1 4) = 0 then some none else s.group.lostBy[n]) else s.group.lostBy[n]

/-- A view installed (R340): the mirrored records of a port that has no steward yet are all held (R336). -/
def State.installView (s : State) (mask : BitVec 4) (epoch : BitVec 32) : State :=
  let first := !s.group.view.getLsbD s.self.val
  let s := s.otherMembers.foldl (State.confirmPeer mask) s
  let g := s.group
  let got : BitVec 4 := allPb.foldl (fun f n =>
    if s.stewardOf n == none && (s.claimant n).isNone then setBit f n.val true else f) (if first then 0 else g.mirrorGot)
  let lost := if first then s.lostBefore mask else g.lostBy
  let s : State := { s with
      group := { g with view := mask, epoch := epoch, proposal := none, mirrorGot := got, mirrorMiss := 0, lostBy := lost },
      journal := { s.journal with
        entries := s.journal.entries.map fun e => { e with recAck := e.recAck &&& mask, outAck := e.outAck &&& mask } } }
  (((s.bumpGrp 7).raiseEvent evGroup).settleGroup (some 0)).remirror.endWaits

/-- Whether a member has left its installed view by acknowledging a newer one (R340). -/
def State.leftView (s : State) : Bool := s.group.epoch.toNat < s.group.ackEpoch.toNat

/-- Whether the member proposes a view now (R340). -/
def State.proposes (s : State) : Bool :=
  s.group.joined && s.group.proposal.isNone && (s.seen != s.group.view || s.leftView) && s.topOf (members s.seen) == some s.self

/-- A proposal whose every member has acknowledged is committed (R340). -/
def State.commitView (s : State) : State :=
  match s.group.proposal with
  | none => s
  | some q =>
    if q.mask &&& ~~~q.acks != 0 then s
    else
      let s := (members q.mask).foldl
        (fun s m => if m = s.self then s else s.sendGrpAt m 0 q.epoch (.commit q.mask)) s
      s.installView q.mask q.epoch

/-- PROPOSE sent where it is due (R340). -/
def State.checkView (s : State) : State :=
  if !s.proposes then s
  else
    let mask := s.seen
    let e := s.group.highEpoch + 1
    let s : State := { s with group := { s.group with
      highEpoch := e, ackEpoch := e, ackMask := mask,
      proposal := some { epoch := e, mask := mask, acks := setBit 0 s.self.val true } } }
    let s := (members mask).foldl (fun s m => if m = s.self then s else s.sendGrpAt m 0 e (.propose mask)) s
    s.commitView

/-- The group's state settled, and a view proposed where one is due. -/
def State.groupStep (s : State) (wait : Option Nat) : State := (s.settleGroup wait).checkView

/-! ### GRP packets received (R337 to R340) -/

/-- HELLO (R338). -/
def State.grpHello (s : State) (k : GrpPkt) (b : HelloBody) : State :=
  let m : Fin 4 := k.sender.toFin
  let bad := s.disagreements k b
  let taken := s.claimsTaken m k.epoch b
  let s := bad.foldl (State.reportReason m) s
  let s := if taken then s else s.modPeer m fun p => { p with hello := some b, agrees := bad.isEmpty, left := false }
  let s := if m = s.self then s else s.sendGrp m 0 (.hello s.helloBody)
  s.groupStep (some 0)

/-- The higher of two epochs. -/
def maxEpoch (a b : BitVec 32) : BitVec 32 := if a.toNat < b.toNat then b else a

/-- The ports of which a peer under this epoch is the steward that it names: its records of them have come before (R174, R336), but
for those that found no room (log 68). -/
def State.mirrored (s : State) (m : Fin 4) (k : GrpPkt) (b : HeartBody) : BitVec 4 :=
  if k.epoch != s.group.epoch then 0
  else allPb.foldl (fun f n =>
    if b.svalid.getLsbD n.val && (b.stewards.extractLsb' (2 * n.val) 2).toNat == m.val then setBit f n.val true else f)
    (0 : BitVec 4) &&& ~~~s.group.mirrorMiss

/-- HEARTBEAT (R339, R342): one of a peer that does not agree is ignored. One of a peer that has left this member's view, by
acknowledging a newer one, confirms nothing (R340; log 64). -/
def State.grpHeartbeat (s : State) (k : GrpPkt) (b : HeartBody) : State :=
  let m : Fin 4 := k.sender.toFin
  if m = s.self || !s.group.peers[m].agrees then s
  else
    let d := s.draw
    let s := d.2.modPeer m fun p =>
      { p with alive := true, lastEpoch := k.epoch, confAt := if k.epoch = s.group.epoch && b.ackEpoch.toNat ≤ k.epoch.toNat then some s.plant else p.confAt,
               locked := d.1.getLsbD 0, tstate := b.tstate, stew := b.stewards, svalid := b.svalid }
    let s : State := { s with group := { s.group with
      highEpoch := maxEpoch s.group.highEpoch (maxEpoch k.epoch b.ackEpoch),
      mirrorGot := s.group.mirrorGot ||| s.mirrored m k b } }
    s.groupStep (some 0)

/-- PROPOSE (R340). -/
def State.grpPropose (s : State) (k : GrpPkt) (mask : BitVec 4) : State :=
  let m : Fin 4 := k.sender.toFin
  let s : State := { s with group := { s.group with highEpoch := maxEpoch s.group.highEpoch k.epoch } }
  if s.group.ackEpoch.toNat < k.epoch.toNat && mask.getLsbD s.self.val && mask.getLsbD m.val && mask &&& ~~~s.seen == 0 then
    let s : State := { s with group := { s.group with ackEpoch := k.epoch, ackMask := mask } }
    s.sendGrpAt m 0 k.epoch .ack
  else s

/-- ACK (R340). -/
def State.grpAck (s : State) (k : GrpPkt) : State :=
  match s.group.proposal with
  | none => s
  | some q =>
    if q.epoch != k.epoch then s
    else
      let s : State := { s with group := { s.group with
        proposal := some { q with acks := setBit q.acks k.sender.toNat true } } }
      s.commitView

/-- COMMIT of the proposal that this member has acknowledged (R340). -/
def State.grpCommit (s : State) (k : GrpPkt) (mask : BitVec 4) : State :=
  if k.epoch = s.group.ackEpoch && mask = s.group.ackMask && k.epoch != s.group.epoch then
    (s.installView mask k.epoch).checkView
  else s

/-- LEAVE: the sender drops from SEEN at once, its ports are taken over after 100 us (R349, Table 13.5). -/
def State.grpLeave (s : State) (k : GrpPkt) : State :=
  (s.modPeer k.sender.toFin fun p => { p with alive := false, left := true, confAt := none }).groupStep (some 100)

/-! ### Forwarded requests (R346 to R348, R369) -/

/-- A forwarded request, the last of it arrived on an MX port, in the steward's stages (R346, R369, R390). -/
def State.runForwarded (s : State) (p : MxNo) (q : FwdIn) : State :=
  match q.kind with
  | .int => match s.routeFor q.pkt.addr with
    | none => s
    | some (n, level, _) =>
      if s.stewardOf n = some s.self && !s.group.fenced then
        s.modPb n fun b => b.interrupt level ((dataOf (q.pkt.data.headD 0)).getLsbD 13)
      else s
  | _ =>
    let h := q.pkt.h
    let r : Req :=
      { id := s.nextId, org := .peer q.sender, src := h.src, tag := q.tag, kind := q.kind, addr := q.pkt.addr.toNat,
        len := h.len.toNat, pair := h.pair, retx := h.retx, odom := q.pkt.odom, gen := q.pkt.otoken.extractLsb' 8 8,
        seq := q.pkt.otoken.extractLsb' 0 8, wseq := q.pkt.wseq, words := q.pkt.data, trust := 0, wno := 0, win := Win.none }
    let s := s.fresh 1
    let l := s.levCheck none q.kind h.src q.pkt.data
    let s := match l with
      | .deny _ => s
      | .pass _ w => s.admittedClear p w
    (s.fromLevee r l).wake

/-- How many data words a forwarded request has. -/
def FwdIn.words (q : FwdIn) : Nat :=
  if rqWrites q.kind then (spanned q.pkt.addr.toNat q.pkt.h.len.toNat).length else q.pkt.data.length

/-- FWDREQ: discarded from outside the installed view (R369). -/
def State.grpFwdreq (s : State) (x : MxNo) (k : GrpPkt) (kind : RqKind) (p : ReqPkt) : State :=
  if !s.group.view.getLsbD k.sender.toNat then s
  else
    let q : FwdIn := { sender := k.sender.toFin, tag := k.h.tag, kind := kind, pkt := p }
    if q.words ≤ p.data.length then s.runForwarded x q
    else { s with group := { s.group with fwdIn := s.group.fwdIn ++ [q] } }

/-- FWDDATA: the remaining data of a forwarded request (Table 13.3). -/
def State.grpFwddata (s : State) (x : MxNo) (k : GrpPkt) (l : List Word) : State :=
  match takeFirst (fun q => q.sender = k.sender.toFin && q.tag = k.h.tag) s.group.fwdIn with
  | none => s
  | some (q, rest) =>
    let q := { q with pkt := { q.pkt with data := q.pkt.data ++ l } }
    if q.words ≤ q.pkt.data.length then
      ({ s with group := { s.group with fwdIn := rest } }).runForwarded x q
    else { s with group := { s.group with fwdIn := rest ++ [q] } }

/-- The bytes of a forwarded request that no part covers. -/
def Forward.uncovered (q : Forward) : List Nat := (List.range q.req.len).filter fun i => !partsCover q.parts i 1

/-- FWDRSP (R346): one that comes for no pending request is discarded (R347). -/
def State.grpFwdrsp (s : State) (k : GrpPkt) (p : Part) : State :=
  match takeFirst (fun q => ridTag q.rid = k.h.tag) s.group.forwards with
  | none => s
  | some (q, rest) =>
    let s := s.answerPart q.req p
    let q := { q with parts := q.parts ++ [p] }
    if q.req.len = 0 || q.uncovered.isEmpty then
      ({ s with group := { s.group with forwards := rest } }).endReq q.req
    else { s with group := { s.group with forwards := rest ++ [q] } }

/-- FORWARD_TIMEOUT (R347). -/
def forwardTimeout (rid : Nat) (s : State) : State :=
  match takeFirst (fun q => q.rid = rid) s.group.forwards with
  | none => s
  | some (q, rest) =>
    let s : State := { s with group := { s.group with forwards := rest } }
    let runs := if q.req.len = 0 then [(0, 0)] else runsOf q.uncovered
    let s := runs.foldl (fun s r => s.answerPart q.req (timeoutPart r)) s
    ((s.endReq q.req).bumpGrp 9).wake

/-! ### Mirrored records (R275, R276, R345) -/

/-- A mirrored entry from its header words and data (Table 10.12), in some lines of the region. -/
def JrecIn.entry (q : JrecIn) (lines : List Nat) : JEntry :=
  let rte := q.eh0.getLsbD 50
  { jsn := (q.eh0.extractLsb' 0 48).toNat, port := (q.eh0.extractLsb' 48 2).toFin, mirrored := true,
    who := if rte then .thr (q.eh2.extractLsb' 0 3).toFin else .src (q.eh2.extractLsb' 0 16), hasWseq := q.eh0.getLsbD 51,
    wseq := q.eh3.extractLsb' 0 32, addr := (q.eh1.extractLsb' 0 48).toNat, len := (q.eh1.extractLsb' 48 9).toNat,
    window := (q.eh2.extractLsb' 16 8).toNat, pstart := (q.eh2.extractLsb' 24 24).toNat, trec := q.eh4, words := q.words,
    state := .recorded, jout := 0, answers := [], recAck := 0, outAck := 0, lines := lines }

/-- The number of data words that a record announces. -/
def JrecIn.count (q : JrecIn) : Nat := (q.eh0.extractLsb' 52 5).toNat + 1

/-- The requester table as a mirrored record rebuilds it (R265, R276). -/
def State.mirrorReqr (s : State) (e : JEntry) : Option (List JReqr) :=
  match e.who with
  | .src q => if e.hasWseq then (s.roomForReqr q).map (touchReqr q) else some s.journal.reqrs
  | .thr _ => some s.journal.reqrs

/-- A record for which there is no room: this member does not have the port's records (R336, R345). -/
def State.missRecord (s : State) (n : PbNo) : State :=
  { s with group := { s.group with mirrorGot := setBit s.group.mirrorGot n.val false,
                                   mirrorMiss := setBit s.group.mirrorMiss n.val true } }

/-- A complete record stored in the region and acknowledged; without room, or with the journal off, it is not (R345). -/
def State.storeRecord (s : State) (q : JrecIn) : State :=
  let e := q.entry (s.takeLines q.words.length)
  let ack := fun (s : State) => s.sendGrp q.sender 0 (.jack (BitVec.ofNat 48 e.jsn) (BitVec.ofNat 2 e.port.val) false)
  if !s.group.view.getLsbD q.sender.val || !(s.candidates e.port).getLsbD s.self.val then s
  else if (s.entry e.port e.jsn).isSome then ack s
  else if !s.journalOn || s.freeLines < linesFor e.words.length then s.missRecord e.port
  else match s.mirrorReqr e with
    | none => s.missRecord e.port
    | some l =>
      let s : State := { s with
        journal := { s.journal with entries := s.journal.entries ++ [e], reqrs := l,
                                    topJsn := vmod s.journal.topJsn e.port fun j => max j e.jsn } }
      ack (s.writeEntry e)

/-- JREC, complete or with words still to come in JRECX. -/
def State.grpJrec (s : State) (q : JrecIn) : State :=
  if q.count ≤ q.words.length then s.storeRecord q
  else { s with group := { s.group with jrecIn := s.group.jrecIn ++ [q] } }

/-- JRECX: the remaining data words of the sender's record. -/
def State.grpJrecx (s : State) (m : Fin 4) (l : List Word) : State :=
  match takeFirst (fun q => q.sender = m) s.group.jrecIn with
  | none => s
  | some (q, rest) => ({ s with group := { s.group with jrecIn := rest } }).grpJrec { q with words := q.words ++ l }

/-- JOUT for an entry held: its outcome recorded, in EH0 too, and acknowledged (R345). -/
def State.grpJout (s : State) (m : Fin 4) (jsn : Nat) (j : BitVec 4) (n : PbNo) : State :=
  match s.entry n jsn with
  | none => s
  | some e =>
    if !e.mirrored then s
    else
      (s.finalEntry n jsn j).sendGrp m 0 (.jack (BitVec.ofNat 48 jsn) (BitVec.ofNat 2 n.val) true)

/-- JACK: a peer holds a record or an outcome (R275). -/
def State.grpJack (s : State) (m : Fin 4) (jsn : Nat) (n : PbNo) (outcome : Bool) : State :=
  (s.modEntry n jsn fun e =>
    if outcome then { e with outAck := setBit e.outAck m.val true } else { e with recAck := setBit e.recAck m.val true }).endWaits

/-! ### Takeover complete (R276, Table 13.5) -/

/-- The INDOUBT field of a port (Table 10.9). -/
def State.indoubt (s : State) (n : PbNo) : Nat := s.fld .oxbow 0 (key 1 n.val)

/-- The write of an entry as a job of the new steward; nobody waits for its answer here. -/
def State.entryJob (s : State) (e : JEntry) (w : Win) (verify : Bool) : Job :=
  let r : Req :=
    { id := s.nextId, org := .peer s.self, src := match e.who with
        | .src q => q
        | .thr _ => 0,
      tag := 0, kind := if e.hasWseq then .wrn else .wrp, addr := e.addr, len := e.len, pair := false, retx := false, odom := 0,
      gen := 0, seq := 0, wseq := e.wseq, words := e.words, trust := 0, wno := e.window, win := w }
  { req := r, blocks := w.blocks (s.fld .parene e.port.val 7) e.addr e.len, got := [], markBad := false, retries := 0,
    answered := true, jsn := some e.jsn, verify := verify, differs := false }

/-- An entry that is to run, or to be verified, put at the end of its port's jobs. -/
def State.runEntry (s : State) (e : JEntry) (verify : Bool) : State :=
  match aget e.window s.windows with
  | none => s.finalise e.port e.jsn 9 e.pstart
  | some w =>
    let j := s.entryJob e w verify
    (s.fresh 1).modPb e.port fun b => { b with jobs := b.jobs ++ [j] }

/-- The entry in doubt (R276). -/
def State.runInDoubt (s : State) (e : JEntry) : State :=
  let s := s.bumpJ 14
  match s.indoubt e.port with
  | 0 => s.finalise e.port e.jsn 9 e.pstart
  | 1 => (s.bumpJ 16).runEntry e false
  | _ => s.runEntry e true

/-- The entries that run on, in JSN order. -/
def State.runEntries (s : State) (l : List JEntry) : State :=
  match l with
  | [] => s
  | e :: r => r.foldl (fun s e => s.runEntry e false) (s.runInDoubt e)

/-- Entries in rising JSN order. -/
def sortEntries : List JEntry → List JEntry
  | [] => []
  | e :: r =>
    let l := sortEntries r
    (l.takeWhile fun x => x.jsn < e.jsn) ++ e :: l.dropWhile fun x => x.jsn < e.jsn

/-- Step 5 of Table 13.5: the JSN counter goes on behind the highest JSN mirrored, and behind those this member gave itself (log
67), and the mirrored entries become this member's own (R276). -/
def State.adoptEntries (s : State) (n : PbNo) : State :=
  let l := sortEntries (s.journal.entries.filter fun e => e.port = n && e.mirrored)
  let s := s.modPb n fun b => { b with jsn := max b.jsn ((s.journal.topJsn[n] + 1) % 2 ^ 48) }
  if l.isEmpty then s
  else
    let s : State := { s with journal := { s.journal with
      entries := s.journal.entries.map fun e =>
        if e.port = n && e.mirrored then
          { e with mirrored := false, recAck := if e.state = .final then 15 else 0, outAck := if e.state = .final then 15 else 0 }
        else e } }
    let run := l.filter fun e => e.state != .final
    let s := run.foldl (fun s e => s.mirrorRecord e) s
    s.runEntries run

/-- Steps 5 and 6 of Table 13.5; step 5 is the new steward's alone. -/
def State.endTakeover (s : State) (n : PbNo) : State :=
  let s := if s.mirrorOn && s.stewardOf n == some s.self then s.adoptEntries n else s
  { s with group := { s.group with takeover := s.group.takeover.set n none } }

/-- TAKEOVER_WAIT_END: the new steward releases its pins (step 4); another member sends requests to it from now on. -/
def takeoverWaitEnd (n : PbNo) (s : State) : State :=
  if s.group.takeover[n].isNone || !s.clocked then s
  else if s.stewardOf n != some s.self || !s.pb[n].recorded then s.endTakeover n
  else
    let s := s.modPb n fun b => { b with enabled := true }
    if s.pb[n].releasing then s else s.releasePins n false

/-- What the end of the observation does for a takeover. -/
def State.observed (s : State) (n : PbNo) : State :=
  if s.group.takeover[n].isSome && s.stewardOf n == some s.self && s.pb[n].phase == .normal then s.endTakeover n else s

/-! ### Time packets and probes (R181, R352 to R356) -/

/-- The offset of the peer from one exchange (R181). -/
def offsetOf (tx etx erx rx : Data) : Int := (((erx - etx).toInt) - ((rx - tx).toInt)) / 2

/-- The last four offsets with a new one. -/
def newOffset (o : Int) (l : List Int) : List Int := (o :: l).take 4

/-- TPROBE, which arrived at `rx` (R352): the reference answers it; an answer of the reference gives an offset. -/
def State.grpTprobe (s : State) (m : Fin 4) (tx etx erx rx : Data) : State :=
  if s.isReference then s.sendGrp m 0 (.tprobe rx tx rx)
  else if s.referenceOf != some m then s
  else
    let t := { s.time with echoTx := tx, echoRx := rx, probesLost := 0 }
    let t : TimeSt := if etx = BitVec.allOnes 64 then t
      else
        let o := offsetOf tx etx erx rx
        { t with offsets := newOffset o t.offsets, steer := if forced s.time.inForce 0 = 2 then t.steer else o }
    (({ s with time := t }).setTimeState.stepOut).groupStep (some 0)

/-- The TIME fields in force from a probe on (R358). -/
def State.latchTime (s : State) : State := { s with time := { s.time with inForce := s.subs[subIdx .time 0].fields } }

/-- TPROBE_TIMER: TIMEPERIOD of a member that is not the reference (R352). -/
def tprobeTimer (s : State) : State :=
  if !s.clocked || !s.group.joined || s.isReference then s
  else match s.referenceOf with
    | none => s
    | some m =>
      let s := s.latchTime.sendGrp m 0 (.tprobe s.time.now s.time.echoTx s.time.echoRx)
      (({ s with time := { s.time with probesLost := s.time.probesLost + 1 } }).setTimeState).groupStep (some 0)

/-- The port that disciplines Plant Time: the lowest-numbered one in link up (R356). -/
def State.timePort (s : State) : Option MxNo := allMx.find? fun p => s.mxt[p].up

/-- An offset to the link peer acted on by a device that is not joined (R356). -/
def State.soloOffset (s : State) (o : Int) : State :=
  let first := !s.time.firstSeen
  let s : State := { s with time := { s.time with firstSeen := true } }
  if forced s.time.inForce 0 = 1 then s
  else if first && 1000 < o.natAbs && s.journal.entries.isEmpty then s.stepTime o
  else { s with time := { s.time with steer := o } }

/-- An offset to the link peer (R356). -/
def State.fabricOffset (s : State) (o : Int) : State :=
  let s : State := { s with time := { s.time with fabric := newOffset o s.time.fabric } }
  if !s.group.joined then s.soloOffset o
  else
    let mode := forced s.time.inForce 0
    let s := if mode = 2 || (mode = 0 && s.isReference) then { s with time := { s.time with steer := o } } else s
    s.groupStep (some 0)

/-- The port whose TIME packets count changed: the offsets are those to another peer (R356). -/
def State.setSource (s : State) (p : MxNo) : State :=
  if s.time.sourcePort = some p then s
  else { s with time := { s.time with sourcePort := some p, firstSeen := false, fabric := [] } }

/-- Whether TIME packets of a port discipline this device: no lower-numbered port in link up has brought any. -/
def State.disciplines (s : State) (p : MxNo) : Bool :=
  if s.group.joined then s.timePort == some p
  else match s.time.sourcePort with
    | some q => p ≤ q || !s.mxt[q].up
    | none => true

/-- A TIME packet received, which reached its ball at `rx` (R181, R356). -/
def State.timeIn (s : State) (p : MxNo) (k : TimePkt) (rx : Data) : State :=
  let s := s.modMxt p fun m => { m with echoTx := dataOf k.txtime, echoRx := rx }
  if !s.disciplines p then s
  else
    let s := s.setSource p
    if dataOf k.echotx = BitVec.allOnes 64 then s
    else s.fabricOffset (offsetOf (dataOf k.txtime) (dataOf k.echotx) (dataOf k.echorx) rx)

/-! ### Every GRP packet (R337) -/

/-- The body of a GRP packet for this member that arrived on an MX port at `rx`. -/
def State.grpBody (s : State) (p : MxNo) (k : GrpPkt) (rx : Data) : State :=
  let m : Fin 4 := k.sender.toFin
  match k.body with
  | .hello b => s.grpHello k b
  | .heartbeat b => s.grpHeartbeat k b
  | .propose mask => s.grpPropose k mask
  | .ack => s.grpAck k
  | .commit mask => s.grpCommit k mask
  | .tprobe tx etx erx => s.grpTprobe m tx etx erx rx
  | .fwdreq kind r => s.grpFwdreq p k kind r
  | .fwddata l => s.grpFwddata p k l
  | .fwdrsp code off hint len l => s.grpFwdrsp k { off := off.toNat, len := len.toNat, code := code, hint := hint, words := l }
  | .jrec a b c d e l => s.grpJrec { sender := m, eh0 := a, eh1 := b, eh2 := c, eh3 := d, eh4 := e, words := l }
  | .jrecx l => s.grpJrecx m l
  | .jout jsn j n => s.grpJout m jsn.toNat j n.toFin
  | .jack jsn n outcome => s.grpJack m jsn.toNat n.toFin outcome
  | .leave => s.grpLeave k
  | .reserved .. => s.bumpGrp 10

/-- A GRP packet received, which arrived at `rx` (R337): a member that is not joined takes none. -/
def State.grpIn (s : State) (p : MxNo) (k : GrpPkt) (rx : Data) : State :=
  if !s.group.joined || k.dup then s
  else if k.dest != s.group.index || s.group.n1.toNat < k.sender.toNat then s.bumpGrp 10
  else s.grpBody p k rx

/-! ### Timers -/

/-- HELLO_TIMER: every 10 ms while JOINING (R338). -/
def helloTimer (s : State) : State :=
  if s.clocked && s.group.joined && !s.group.admitted then s.sendAll (.hello s.helloBody) else s

/-- The steward fields of HEARTBEAT (Table 13.3). -/
def Group.stewardBits (g : Group) : BitVec 8 × BitVec 4 :=
  allPb.foldl (fun f n => match g.stewards[n] with
    | some m => (f.1 ||| (m.setWidth 8 <<< (2 * n.val)), setBit f.2 n.val true)
    | none => f) (0, 0)

/-- This member's HEARTBEAT. -/
def State.heartBody (s : State) : HeartBody :=
  let b := s.group.stewardBits
  { seen := s.seen, view := s.group.view, gstate := s.gstate, stewards := b.1, svalid := b.2, tstate := s.time.state,
    ackEpoch := s.group.ackEpoch }

/-- The GROUP fields in force from a heartbeat on (R358). -/
def State.latchGroup (s : State) : State := { s with group := { s.group with inForce := s.subs[subIdx .group 0].fields } }

/-- HEARTBEAT_TIMER: every HBPERIOD (R339). -/
def heartbeatTimer (s : State) : State :=
  if !s.clocked || !s.group.joined || s.power.entering.isSome then s
  else
    let s := s.latchGroup.groupStep (some 0)
    s.sendAll (.heartbeat s.heartBody)

/-- HEARTBEAT_TIMEOUT: no heartbeat of a member within HBTIMEOUT (R339, R342). -/
def heartbeatTimeout (m : Fin 4) (s : State) : State :=
  if !s.clocked || !s.group.joined then s
  else (s.modPeer m fun p => { p with alive := false, confAt := none }).groupStep (some 0)

/-- VIEW_TIMEOUT: a proposal not committed within VIEWTO is dropped (R340). -/
def viewTimeout (s : State) : State :=
  if s.group.proposal.isNone then s
  else ({ s with group := { s.group with proposal := none } }).checkView

/-! ### GROUPJOIN and GROUPLEAVE (R332, R335, R338, R349) -/

/-- GROUPJOIN takes effect: fenced until a view with quorum supports the member, every Parene port a group port. -/
def State.joinGroup (s : State) (index n1 : BitVec 2) (prio : BitVec 4) (gaddr : BitVec 48) (gid : BitVec 16) : State :=
  let s : State := { s with
    group := { Group.initial with joined := true, index := index, n1 := n1, prio := prio, gaddr := gaddr, gid := gid,
                                  fenced := true, cnt := s.group.cnt, forwards := s.group.forwards },
    time := { s.time with offsets := [], probesLost := 0, reference := index, echoTx := BitVec.allOnes 64, echoRx := 0 } }
  let s := s.latchGroup.latchTime
  let s := allPb.foldl (fun s n => if s.pb[n].enabled then s.leavePort n else s) s
  (s.sendAll (.hello s.helloBody)).groupStep (some 0)

/-- GROUPLEAVE takes effect: LEAVE to every member, the ports left, SOLO again. -/
def State.leaveGroup (s : State) : State :=
  let s := s.sendAll .leave
  let s := allPb.foldl (fun s n => if s.pb[n].enabled then s.leavePort n else s) s
  let s : State := { s with group := { Group.initial with cnt := s.group.cnt, forwards := s.group.forwards },
                            time := { s.time with offsets := [], probesLost := 0 } }
  s.setTimeState.endWaits.wake

/-! ### Meanings -/

/-- OBSERVATION_END (R206, Table 13.5). -/
def execObservationEnd (n : PbNo) (s : State) : Host.Outcome State Fault Refusal := .next ((observationEnd n s).observed n).wake

/-- HELLO_TIMER. -/
def execHelloTimer (s : State) : Host.Outcome State Fault Refusal := .next (helloTimer s)

/-- HEARTBEAT_TIMER. -/
def execHeartbeatTimer (s : State) : Host.Outcome State Fault Refusal := .next (heartbeatTimer s)

/-- HEARTBEAT_TIMEOUT. -/
def execHeartbeatTimeout (m : Fin 4) (s : State) : Host.Outcome State Fault Refusal := .next (heartbeatTimeout m s)

/-- VIEW_TIMEOUT. -/
def execViewTimeout (s : State) : Host.Outcome State Fault Refusal := .next (viewTimeout s)

/-- TPROBE_TIMER. -/
def execTprobeTimer (s : State) : Host.Outcome State Fault Refusal := .next (tprobeTimer s)

/-- FORWARD_TIMEOUT. -/
def execForwardTimeout (rid : Nat) (s : State) : Host.Outcome State Fault Refusal := .next (forwardTimeout rid s)

/-- TAKEOVER_WAIT_END. -/
def execTakeoverWaitEnd (n : PbNo) (s : State) : Host.Outcome State Fault Refusal := .next (takeoverWaitEnd n s).wake

end Sys2Proof.Machine
end

