-- ==== Sys2Proof/Machine/Setup.lean ====
section
/-! DEFINITION. The set-up instructions WIN, ROUTE, ADMIT, LEVRULE, RIFLOAD, RIFCHAN, GROUPJOIN, GROUPLEAVE, PORT ENABLE and
PORT DISABLE (R66 to R71, R217, R218, R237, R240, R242, R243, R251, R253, R298, R307, R332, R349, R364, R371, R448, R449). -/

namespace Sys2Proof.Machine

/-! ### What every set-up instruction does first (R64, R67, R371, R448) -/

/-- Whether an operand register is poisoned, empty or below SETUPMIN (R67, R371). -/
def State.badOperand (s : State) (t : Thread) (r : Reg) : Bool :=
  !isGood (s.reg t r) || decide ((tagTrust (tagOf (s.reg t r))).toNat < s.lev 4)

/-- XINFO of a fault of an operand's tag (R448). -/
def tagInfo (r : Reg) : Data := BitVec.ofNat 64 (2 ^ 15 + r.val)

/-- XINFO of a fault of a field of the instruction itself, whose low bit is at `pos` (R448). -/
def formInfo (pos : Nat) : Data := BitVec.ofNat 64 (2 ^ 14 + 2 ^ 8 * pos)

/-- XINFO of a fault of an operand field, whose low bit is at `low` (R448). -/
def fieldInfo (r : Reg) (low : Nat) : Data := BitVec.ofNat 64 (r.val + 2 ^ 8 * low)

/-- SETUP_OPERAND for an operand's tag, counted in SETUPREJ (R371). -/
def State.rejectTag (s : State) (t : Thread) (r : Reg) : Issued :=
  let s' := (s.bumpLev 11).except t xSetup (tagInfo r) (s.thr t).ia
  .jump s' (s'.thr t).ia

/-- ABSENT_UNIT for an instance of a subsystem (R449). -/
def absentUnit (u : Sub) (i : Nat) : BitVec 6 × Data := (xAbsent, BitVec.ofNat 64 (16 * u.code + i))

/-- A set-up instruction or XGET at its commit: an illegal form, then what precedes SETUP_OPERAND, then the operand tags, then the
rest (R64, Table 3.17). -/
def setupAt (t : Thread) (op : BitVec 6) (f : FmtS) (regs : List Reg) (illegal : Bool)
    (before : State → Option (BitVec 6 × Data)) (body : State → Issued) (s : State) : Issued :=
  Issued.unless illegal (encS op f)
    (match before s with
    | some x => .except x.1 x.2
    | none => match regs.find? (s.badOperand t) with
      | some r => s.rejectTag t r
      | none => body s)

/-- A set-up instruction. -/
def setup (t : Thread) (op : BitVec 6) (f : FmtS) (regs : List Reg) (illegal : Bool)
    (before : State → Option (BitVec 6 × Data)) (body : State → Issued) (s : State) : State :=
  s.issue t (encS op f) regs true (setupAt t op f regs illegal before body)

/-- The set-up change, or SETUP_OPERAND for the first operand field at fault (R67, R448). -/
def Issued.orField (fault : Option (Reg × Nat)) (r : Issued) : Issued :=
  match fault with
  | some p => .except xSetup (fieldInfo p.1 p.2)
  | none => r

/-- The first fault of a list of named conditions, in the order of R448. -/
def firstFault (l : List (Bool × Reg × Nat)) : Option (Reg × Nat) := (l.find? fun x => x.1).map fun x => x.2

/-- Bits of an operand as a number. -/
def bitsAt (d : Data) (lo n : Nat) : Nat := (d.extractLsb' lo n).toNat

/-- Fields that none of WIN, ROUTE, ADMIT, LEVRULE, RIFLOAD and RIFCHAN uses (R46, Table 3.12). -/
def operandsOnly (f : FmtS) : Bool := f.sub == 0 && f.inst == 0 && f.sx == 0

/-- Whether two ranges overlap. -/
def rangesMeet (a n b m : Nat) : Bool := decide (a < b + m) && decide (b < a + n)

/-! ### WIN (Table 3.13, R68, R217, R218) -/

/-- The width mode of a code; 11 is reserved. -/
def Width.ofCode : Nat → Option Width
  | 0 => some .narrow | 1 => some .pack4 | 2 => some .wide18 | _ => none

/-- The byte order of a code; 11 is reserved. -/
def ByteOrder.ofCode : Nat → Option ByteOrder
  | 0 => some .none | 1 => some .swap16 | 2 => some .rev16 | _ => Option.none

/-- The window that WIN's operands describe; reserved codes are refused before it is used. -/
def winOf (a b : Data) : Sys2Proof.Machine.Win :=
  { base := bitsAt a 0 48, pbase := bitsAt b 0 24, size := bitsAt b 32 5, port := Fin.ofNat 4 (bitsAt b 37 2),
    io := b.getLsbD 39, width := (Width.ofCode (bitsAt b 40 2)).getD .narrow,
    order := (ByteOrder.ofCode (bitsAt b 42 2)).getD .none, trust := b.extractLsb' 44 2, device := b.getLsbD 46,
    ewa := b.extractLsb' 47 2, jrnl := b.getLsbD 49, hold := b.getLsbD 50, pairAtomic := b.getLsbD 51,
    dir := if bitsAt b 52 2 = 2 then .outbound else .inbound, mxport := Fin.ofNat 2 (bitsAt b 54 1),
    odom := b.extractLsb' 55 8 }

/-- Whether WIN closes a window (R68). -/
def winCloses (b : Data) : Bool := bitsAt b 52 2 == 0

/-- ABSENT_UNIT of a WIN (R218, R449). -/
def State.winAbsent (s : State) (b : Data) : Option (BitVec 6 × Data) :=
  if winCloses b then none
  else if !s.hasPb (bitsAt b 37 2) then some (absentUnit .parene (bitsAt b 37 2))
  else if bitsAt b 52 2 = 2 && !s.hasMx (bitsAt b 54 1) then some (absentUnit .mxt 1)
  else none

/-- Whether a window's SIZE is within its limits (Table 3.13; log 31). -/
def Win.sizeOk (w : Win) : Bool := w.size ≤ 24 && (w.width != .pack4 || 2 ≤ w.size)

/-- Whether an inbound window's MXL range meets that of another inbound window (R218). -/
def State.mxlOverlap (s : State) (k : Nat) (w : Win) : Bool :=
  w.dir == .inbound && s.windows.any fun o => o.1 != k && o.2.dir == .inbound && rangesMeet w.base w.extent o.2.base o.2.extent

/-- Whether a window's Parene range meets one that R218 keeps apart from it. -/
def State.pareneOverlap (s : State) (k : Nat) (w : Win) : Bool :=
  s.windows.any fun o => o.1 != k && (w.dir == .outbound || o.2.dir == .outbound) && o.2.port = w.port && o.2.io == w.io &&
    rangesMeet w.pbase (2 ^ w.size) o.2.pbase (2 ^ o.2.size)

/-- The first field of a defining WIN at fault (R67, R68, R218, R448). -/
def State.winFault (s : State) (f : FmtS) (a b : Data) : Option (Reg × Nat) :=
  let w := winOf a b
  let k := bitsAt b 24 8
  let wide := bitsAt b 40 2 != 3
  let dirOk := bitsAt b 52 2 != 3
  firstFault
    [(w.sizeOk && wide && (w.base % w.extent != 0 || decide (2 ^ 48 < w.base + w.extent) || (dirOk && s.mxlOverlap k w)),
        f.wa, 0),
     (bitsAt a 48 16 != 0, f.wa, 48),
     (w.sizeOk && (w.pbase % 2 ^ w.size != 0 || (w.io && decide (0x10000 < w.pbase + 2 ^ w.size)) ||
        (wide && dirOk && s.pareneOverlap k w)), f.wb, 0),
     (!w.sizeOk, f.wb, 32),
     (!wide || (w.hold && w.width != .pack4), f.wb, 40),
     (bitsAt b 42 2 == 3, f.wb, 42),
     (w.ewa == 3, f.wb, 47),
     (w.jrnl && bitsAt b 52 2 == 2, f.wb, 49),
     (w.hold && bitsAt b 52 2 == 2, f.wb, 50),
     (w.pairAtomic && bitsAt b 52 2 == 1, f.wb, 51),
     (!dirOk, f.wb, 52)]

/-- WIN in force (R68, R217). -/
def State.setWin (s : State) (a b : Data) : State :=
  if winCloses b then { s with windows := adel (bitsAt b 24 8) s.windows }
  else { s with windows := aset (bitsAt b 24 8) (winOf a b) s.windows }

/-- WIN WA, WB. -/
def winSetup (t : Thread) (f : FmtS) (s : State) : State :=
  setup t 0x3B f [f.wa, f.wb] (!operandsOnly f) (fun s => s.winAbsent (dataOf (s.reg t f.wb))) (fun s =>
    let a := dataOf (s.reg t f.wa)
    let b := dataOf (s.reg t f.wb)
    Issued.orField (if winCloses b then none else s.winFault f a b) (.done (s.setWin a b))) s

/-! ### ROUTE (Table 3.14, R237, R240, R242, R243) -/

/-- The key of the route that WA names. -/
def routeOf (a : Data) : Nat := routeKey (Fin.ofNat 4 (bitsAt a 3 2)) (bitsAt a 0 3) (bitsAt a 5 1)

/-- ABSENT_UNIT of a ROUTE (R237, R449; log 32). -/
def State.routeAbsent (s : State) (a : Data) : Option (BitVec 6 × Data) :=
  if !s.hasPb (bitsAt a 3 2) then some (absentUnit .parene (bitsAt a 3 2))
  else if !s.hasMx (bitsAt a 6 1) then some (absentUnit .mxt 1)
  else none

/-- Whether the delivery word of a LOCAL route is valid (R240). -/
def State.deliveryOk (s : State) (b : Data) : Bool :=
  bitsAt b 26 22 == 0 && bitsAt b 0 3 == 0 && !s.pageExec (bitsAt b 0 26 / 4096)

/-- The first field of a ROUTE at fault (R237, R448; log 32). -/
def State.routeFault (s : State) (f : FmtS) (a b : Data) : Option (Reg × Nat) :=
  let dir := bitsAt a 5 1
  let local_ := a.getLsbD 16
  let k := routeOf a
  let other := routeKey (Fin.ofNat 4 (bitsAt a 3 2)) (bitsAt a 0 3) (1 - dir)
  firstFault
    [(bitsAt a 0 3 == 0 || (a.getLsbD 15 && (aget other s.routes).isSome), f.wa, 0),
     (local_ && dir == 1, f.wa, 5),
     ((dir == 1 && (bitsAt b 0 3 != 0 || s.routes.any fun r => r.1 != k && r.1 % 2 == 1 && r.2.addr == b.extractLsb' 0 48)) ||
        (local_ && dir == 0 && !s.deliveryOk b), f.wb, 0)]

/-- A level released and its record cleared, as when a DIR = 1 route is removed or replaced (R242, R243). -/
def Pb.releaseLevel (level : Nat) (b : Pb) : Pb :=
  { b with irqDrive := setBit b.irqDrive level false, irqRec := setBit b.irqRec level false,
           pins := { b.pins with irqLow := setBit b.pins.irqLow level false } }

/-- ROUTE in force (R237, R242). -/
def State.setRoute (s : State) (a b : Data) : State :=
  let k := routeOf a
  let s := if k % 2 = 1 && (aget k s.routes).isSome then s.modPb (Fin.ofNat 4 (bitsAt a 3 2)) (Pb.releaseLevel (bitsAt a 0 3)) else s
  if a.getLsbD 15 then
    let r : Route := { mxport := Fin.ofNat 2 (bitsAt a 6 1), vector := a.extractLsb' 7 8, isLocal := a.getLsbD 16,
                       addr := b.extractLsb' 0 48 }
    { s with routes := aset k r s.routes }
  else { s with routes := adel k s.routes }

/-- ROUTE WA, WB. -/
def routeSetup (t : Thread) (f : FmtS) (s : State) : State :=
  setup t 0x3C f [f.wa, f.wb] (!operandsOnly f) (fun s => s.routeAbsent (dataOf (s.reg t f.wa))) (fun s =>
    let a := dataOf (s.reg t f.wa)
    let b := dataOf (s.reg t f.wb)
    Issued.orField (s.routeFault f a b) (.done (s.setRoute a b).wake)) s

/-! ### ADMIT (Table 3.15, R253) -/

/-- Whether ADMIT makes the class undefined (R253). -/
def admitUndefines (b : Data) : Bool := bitsAt b 0 16 == 0 && bitsAt b 16 8 == 0

/-- ABSENT_UNIT of an ADMIT (R449). -/
def State.admitAbsent (s : State) (a : Data) : Option (BitVec 6 × Data) :=
  if s.hasPb (bitsAt a 0 2) then none else some (absentUnit .weir (bitsAt a 0 2))

/-- The first field of a defining ADMIT at fault (R253, R448). -/
def admitFault (f : FmtS) (a b : Data) : Option (Reg × Nat) :=
  firstFault [(2 ≤ bitsAt a 5 2, f.wa, 5), (bitsAt b 16 8 == 0, f.wb, 0), (bitsAt b 24 16 == 0, f.wb, 24)]

/-- The class that ADMIT defines, its bucket at DEPTH (R253). -/
def classOfOperands (a b : Data) : WeirClass :=
  { refuse := bitsAt a 5 2 == 1, deny := a.getLsbD 7, prio := a.extractLsb' 8 3, origin := a.extractLsb' 11 4,
    anyOrigin := a.getLsbD 15, minTrust := a.extractLsb' 16 2, rate := b.extractLsb' 0 16, depth := b.extractLsb' 16 8,
    hintCap := b.extractLsb' 24 16, bucket := 1000 * bitsAt b 16 8 }

/-- ADMIT in force (R253). -/
def State.setClass (s : State) (a b : Data) : State :=
  s.modPb (Fin.ofNat 4 (bitsAt a 0 2)) fun p =>
    { p with classes := p.classes.set (Fin.ofNat 8 (bitsAt a 2 3)) (if admitUndefines b then none else some (classOfOperands a b)) }

/-- ADMIT WA, WB. -/
def admitSetup (t : Thread) (f : FmtS) (s : State) : State :=
  setup t 0x3D f [f.wa, f.wb] (!operandsOnly f) (fun s => s.admitAbsent (dataOf (s.reg t f.wa))) (fun s =>
    let a := dataOf (s.reg t f.wa)
    let b := dataOf (s.reg t f.wb)
    Issued.orField (if admitUndefines b then none else admitFault f a b) (.done (s.setClass a b))) s

/-! ### LEVRULE (Table 14.5, R364) -/

/-- ABSENT_UNIT of a LEVRULE (R364, R449). -/
def State.levruleAbsent (s : State) (a : Data) : Option (BitVec 6 × Data) :=
  if a.getLsbD 5 && a.getLsbD 7 && !s.hasMx 1 then some (absentUnit .mxt 1) else none

/-- The first field of a defining LEVRULE at fault (R364, R448). -/
def levruleFault (f : FmtS) (a b : Data) : Option (Reg × Nat) :=
  firstFault [(bitsAt a 6 2 == 0, f.wa, 6), (bitsAt b 16 16 < bitsAt b 0 16, f.wb, 0)]

/-- LEVRULE in force (R364). -/
def State.setRule (s : State) (a b : Data) : State :=
  if a.getLsbD 5 then
    let r : LevRule := { onMx0 := a.getLsbD 6, onMx1 := a.getLsbD 7, trust := a.extractLsb' 8 2, read := a.getLsbD 10,
                         write := a.getLsbD 11, keepOrigin := a.getLsbD 12, srcLo := b.extractLsb' 0 16,
                         srcHi := b.extractLsb' 16 16 }
    { s with rules := aset (bitsAt a 0 5) r s.rules }
  else { s with rules := adel (bitsAt a 0 5) s.rules }

/-- LEVRULE WA, WB. -/
def levruleSetup (t : Thread) (f : FmtS) (s : State) : State :=
  setup t 0x3E f [f.wa, f.wb] (!operandsOnly f) (fun s => s.levruleAbsent (dataOf (s.reg t f.wa))) (fun s =>
    let a := dataOf (s.reg t f.wa)
    let b := dataOf (s.reg t f.wb)
    Issued.orField (if a.getLsbD 5 then levruleFault f a b else none) (.done (s.setRule a b))) s

/-! ### RIFLOAD (R69, R113, R298) -/

/-- The fields of RIFLOAD's WA. -/
def rifEngine (a : Data) : EngNo := Fin.ofNat 4 (bitsAt a 0 2)
/-- START. -/
def rifStartAt (a : Data) : Nat := bitsAt a 2 7
/-- COUNT. -/
def rifCount (a : Data) : Nat := bitsAt a 9 8

/-- The first operand field of RIFLOAD at fault, the source words apart (R69, R448). -/
def rifloadRange (f : FmtS) (a b : Data) : Option (Reg × Nat) :=
  firstFault [(decide (128 < rifStartAt a + rifCount a), f.wa, 2), (rifCount a == 0, f.wa, 9), (bitsAt a 17 47 != 0, f.wa, 17),
    (bitsAt b 0 3 != 0 || decide (resBytes < b.toNat + 8 * rifCount a), f.wb, 0)]

/-- The source words of RIFLOAD. -/
def State.rifSource (s : State) (a b : Data) : List Word :=
  (List.range (rifCount a)).map fun i => s.res.deliver (b.toNat / 8 + i)

/-- Whether a source word is refused (R69, R298). -/
def badStoreWord (w : Word) : Bool := !isGood w || bitsAt (dataOf w) 32 32 != 0

/-- The store with the source words from START on (R69). -/
def REng.load (start : Nat) (l : List Word) (e : REng) : REng :=
  { e with store := Vector.ofFn fun i : Fin 128 =>
      if start ≤ i.val && i.val < start + l.length then (dataOf (l.getD (i.val - start) 0)).extractLsb' 0 32 else e.store[i] }

/-- RIFLOAD once its source lies in the Reservoir alone (R69). -/
def State.rifload (s : State) (f : FmtS) (a b : Data) : Issued :=
  let l := s.rifSource a b
  if l.any badStoreWord then .except xSetup (fieldInfo f.wb 0)
  else if s.engines[rifEngine a].running then .except xEngine (BitVec.ofNat 64 (rifEngine a).val)
  else
    let s := (List.range (rifCount a)).foldl (fun s i => s.unitRead (b.toNat / 8 + i)) s
    .done (s.modEng (rifEngine a) (REng.load (rifStartAt a) l))

/-- RIFLOAD WA, WB. -/
def rifloadSetup (t : Thread) (f : FmtS) (s : State) : State :=
  setup t 0x34 f [f.wa, f.wb] (!operandsOnly f) (fun _ => none) (fun s =>
    let a := dataOf (s.reg t f.wa)
    let b := dataOf (s.reg t f.wb)
    Issued.orField (rifloadRange f a b)
      (if s.overlaps t b.toNat (8 * rifCount a) then .stall (s.drainRange t b.toNat (8 * rifCount a)) else s.rifload f a b)) s

/-! ### RIFCHAN (Table 11.7, R307, R308) -/

/-- The fields of RIFCHAN's WB (Table 11.7). -/
def rcfgOf (b : Data) : RCfg :=
  { entry := b.extractLsb' 0 7, enable := b.getLsbD 7, ebase := b.extractLsb' 8 5, ecount := bitsAt b 13 6,
    sbase := b.extractLsb' 19 5, scount := bitsAt b 24 6, dbase := b.extractLsb' 30 5, dcount := bitsAt b 35 4,
    tpin := b.extractLsb' 39 5, txMsb := b.getLsbD 44, rxMsb := b.getLsbD 45, join := b.extractLsb' 46 2,
    stopHold := b.getLsbD 48, rbCheck := b.getLsbD 49, attnMask := b.extractLsb' 50 8 }

/-- The fields that a channel has, or will have at its next slot (R308). -/
def RChan.latest (c : RChan) : RCfg := c.change.getLastD c.cfg

/-- The first field of RIFCHAN at fault (R307, R448). -/
def State.rifchanFault (s : State) (f : FmtS) (a : Data) (k : RCfg) : Option (Reg × Nat) :=
  let g : ChanNo := Fin.ofNat 64 (bitsAt a 0 6)
  firstFault [(bitsAt a 6 58 != 0, f.wa, 6), (decide (32 < k.ecount), f.wb, 13), (decide (32 < k.scount), f.wb, 24),
    (decide (8 < k.dcount), f.wb, 35),
    (k.join == 3 || (k.join != s.chans[g].latest.join && (!s.chans[g].txq.isEmpty || s.txLevel g != 0 || !s.chans[g].rxq.isEmpty)), f.wb, 46)]

/-- RIFCHAN in force: at once on a stopped engine, at the channel's next slot on a running one (R308). -/
def State.setChan (s : State) (g : ChanNo) (k : RCfg) : State :=
  if s.engines[engOf g].running then s.modChan g fun c => { c with change := c.change ++ [k] }
  else ((State.drivesChanged s (s.modChan g fun c => c.configure k)).refreshMirror (engOf g)).wake

/-- RIFCHAN WA, WB. -/
def rifchanSetup (t : Thread) (f : FmtS) (s : State) : State :=
  setup t 0x35 f [f.wa, f.wb] (!operandsOnly f) (fun _ => none) (fun s =>
    let a := dataOf (s.reg t f.wa)
    let k := rcfgOf (dataOf (s.reg t f.wb))
    let g : ChanNo := Fin.ofNat 64 (bitsAt a 0 6)
    Issued.orField (s.rifchanFault f a k)
      (if s.engines[engOf g].running && s.chans[g].latest.enable && k.enable then
        .except xEngine (BitVec.ofNat 64 (engOf g).val)
      else .done (s.setChan g k))) s

/-! ### GROUPJOIN and GROUPLEAVE (R70, R332, R349) -/

/-- The first field of GROUPJOIN at fault (R70, R332, R448; log 33). -/
def State.joinFault (s : State) (f : FmtS) (a b : Data) : Option (Reg × Nat) :=
  firstFault [(s.group.joined || bitsAt a 2 2 < bitsAt a 0 2, f.wa, 0), (bitsAt a 2 2 == 0, f.wa, 2),
    (bitsAt a 8 56 != 0, f.wa, 8), (bitsAt b 0 8 != 0, f.wb, 0), (bitsAt b 48 16 == 0 || bitsAt b 48 16 == 0xFFFF, f.wb, 48)]

/-- GROUPJOIN WA, WB. -/
def joinSetup (t : Thread) (f : FmtS) (s : State) : State :=
  setup t 0x36 f [f.wa, f.wb] (!operandsOnly f) (fun _ => none) (fun s =>
    let a := dataOf (s.reg t f.wa)
    let b := dataOf (s.reg t f.wb)
    Issued.orField (s.joinFault f a b)
      (.done (s.joinGroup (a.extractLsb' 0 2) (a.extractLsb' 2 2) (a.extractLsb' 4 4) (b.extractLsb' 0 48)
        (b.extractLsb' 48 16)).wake)) s

/-- GROUPLEAVE (R70, R349; log 33). -/
def leaveSetup (t : Thread) (f : FmtS) (s : State) : State :=
  setup t 0x36 f [] (f.wa != 0 || f.wb != 0 || f.sub != 0 || f.inst != 0 || f.sx != 1) (fun _ => none) (fun s =>
    if s.group.joined then .done s.leaveGroup.wake else .except xSetup (formInfo 0)) s

/-- Opcode 0x36: GROUPJOIN or, with SX = 1, GROUPLEAVE. -/
def groupSetup (t : Thread) (f : FmtS) (s : State) : State := if f.sx = 1 then leaveSetup t f s else joinSetup t f s

/-! ### PORT ENABLE and PORT DISABLE (R71, R206, R291, R335) -/

/-- ABSENT_UNIT of a PORT instruction (R449). -/
def State.portAbsent (s : State) (u : Nat) : Option (BitVec 6 × Data) :=
  if 4 ≤ u || s.hasPb u then none else some (absentUnit .parene u)

/-- Whether a PORT instruction is malformed: an unused field, or INST 6 or 7 (Table 3.12). -/
def portIllegal (f : FmtS) : Bool := f.wa != 0 || f.wb != 0 || f.sub != 0 || decide (5 < f.inst.toNat) || decide (1 < f.sx.toNat)

/-- PORT ENABLE in force: a Parene port, the FP group or the LP group (R71). -/
def State.portOn (s : State) (u : Nat) : State :=
  if u = 4 then { s with field := { s.field with fpOn := true } }
  else if u = 5 then { s with field := { s.field with lpOn := true } }
  else ((s.enablePb (Fin.ofNat 4 u)).groupStep none).wake

/-- PORT DISABLE in force (R71). -/
def State.portOff (s : State) (u : Nat) : State :=
  if u = 4 then (if s.field.fpOn then s.disableFp else s)
  else if u = 5 then (if s.field.lpOn then s.disableLp else s)
  else ((s.disablePb (Fin.ofNat 4 u)).groupStep none).wake

/-- PORT ENABLE u and PORT DISABLE u. -/
def portSetup (t : Thread) (f : FmtS) (s : State) : State :=
  setup t 0x37 f [] (portIllegal f) (fun s => s.portAbsent f.inst.toNat) (fun s =>
    .done (if f.sx = 1 then s.portOn f.inst.toNat else s.portOff f.inst.toNat)) s

/-! ### Meanings -/

/-- WIN. -/
def execWin (t : Thread) (f : FmtS) (s : State) : Host.Outcome State Fault Refusal := .next (winSetup t f s)

/-- WIN with DIR = 00. -/
def execWinClose (t : Thread) (f : FmtS) (s : State) : Host.Outcome State Fault Refusal := .next (winSetup t f s)

/-- ROUTE. -/
def execRoute (t : Thread) (f : FmtS) (s : State) : Host.Outcome State Fault Refusal := .next (routeSetup t f s)

/-- ROUTE with ENABLE = 0. -/
def execRouteRemove (t : Thread) (f : FmtS) (s : State) : Host.Outcome State Fault Refusal := .next (routeSetup t f s)

/-- ADMIT. -/
def execAdmitClass (t : Thread) (f : FmtS) (s : State) : Host.Outcome State Fault Refusal := .next (admitSetup t f s)

/-- ADMIT with DEPTH 0 and RATE 0. -/
def execAdmitUndefine (t : Thread) (f : FmtS) (s : State) : Host.Outcome State Fault Refusal := .next (admitSetup t f s)

/-- LEVRULE. -/
def execLevrule (t : Thread) (f : FmtS) (s : State) : Host.Outcome State Fault Refusal := .next (levruleSetup t f s)

/-- LEVRULE with ENABLE = 0. -/
def execLevruleRemove (t : Thread) (f : FmtS) (s : State) : Host.Outcome State Fault Refusal := .next (levruleSetup t f s)

/-- RIFLOAD. -/
def execRifload (t : Thread) (f : FmtS) (s : State) : Host.Outcome State Fault Refusal := .next (rifloadSetup t f s)

/-- RIFCHAN. -/
def execRifchan (t : Thread) (f : FmtS) (s : State) : Host.Outcome State Fault Refusal := .next (rifchanSetup t f s)

/-- GROUPJOIN. -/
def execGroupjoin (t : Thread) (f : FmtS) (s : State) : Host.Outcome State Fault Refusal := .next (groupSetup t f s)

/-- GROUPLEAVE. -/
def execGroupleave (t : Thread) (f : FmtS) (s : State) : Host.Outcome State Fault Refusal := .next (groupSetup t f s)

/-- PORT ENABLE. -/
def execPortEnable (t : Thread) (f : FmtS) (s : State) : Host.Outcome State Fault Refusal := .next (portSetup t f s)

/-- PORT DISABLE. -/
def execPortDisable (t : Thread) (f : FmtS) (s : State) : Host.Outcome State Fault Refusal := .next (portSetup t f s)

end Sys2Proof.Machine
end

