-- ==== Sys2Proof/Machine/Expert.lean ====
section
/-! DEFINITION. The profile instructions, EXPERT ON and OFF, XCTL and XGET (R7 to R12, R20, R72 to R75, R154 to R160, R186,
R187, R215, R216, R250, R263, R279 to R281, R309, R310, R327, R329 to R331, R357, R358, R391 to R393, R448, R449). -/

namespace Sys2Proof.Machine

/-! ### Instances (Table 3.16, R2, R72, R73) -/

/-- Whether an instance is present on the part (R2). -/
def State.present (s : State) (u : Sub) (i : Nat) : Bool :=
  match u with
  | .lane => s.hasMx i
  | .mxt => s.hasMx i
  | .parene => s.hasPb i
  | .weir => s.hasPb i
  | _ => true

/-- The instances that INST names: 7 is every one present (R73); `none` for a value that names none (R72). -/
def State.instances (s : State) (u : Sub) (inst : Nat) : Option (List Nat) :=
  if inst = 7 then some ((List.range u.count).filter (s.present u)) else if inst < u.count then some [inst] else none

/-- ABSENT_UNIT of an instruction with SUB and INST (R449). -/
def State.subAbsent (s : State) (u : Sub) (inst : Nat) : Option (BitVec 6 × Data) :=
  if inst < u.count && !s.present u inst then some (absentUnit u inst) else none

/-- One instance. -/
def State.sub (s : State) (u : Sub) (i : Nat) : Subsys := s.subs[subIdx u i]

/-! ### Limits that other blocks keep (R263, R327, R358) -/

/-- A field of a set of fields as a natural number. -/
def fieldNat (l : Assoc (BitVec 64)) (k : Nat) : Nat := ((aget k l).getD 0).toNat

/-- A field of a set of fields as an integer. -/
def fieldInt (l : Assoc (BitVec 64)) (k : Nat) : Int := ((aget k l).getD 0).toInt

/-- The byte range of the result blocks of a running full scan (R155). -/
def Scan.range (c : Scan) : Nat × Nat := (c.addr, 8 * c.blocks.length * (3 + c.np * c.nv))

/-- The byte ranges of the delivery words of enabled LOCAL routes and of running eye scans (R263, R327). -/
def State.busyRanges (s : State) : List (Nat × Nat) :=
  ((s.routes.filter fun r => r.2.isLocal).map fun r => (8 * r.2.deliveryWord, 8)) ++
    s.lanes.toList.flatMap fun q => (q.scan.map Scan.range).toList

/-- Whether a byte range meets one of a list. -/
def meetsAny (a n : Nat) (l : List (Nat × Nat)) : Bool := l.any fun r => rangesMeet a n r.1 r.2

/-- Whether OXBOW's fields may change from one set to the other (R263). -/
def State.oxbowMay (s : State) (old new : Assoc (BitVec 64)) : Bool :=
  if [0, 1, 2].all fun k => fieldNat old k == fieldNat new k then true
  else if s.journalBusy then false
  else
    let a := fieldNat new 0 * 2 ^ 20
    let n := fieldNat new 1 * 2 ^ 20
    let gauge := s.fld .gauge 0 2
    n = 0 || !((s.res.pages.any fun p => rangesMeet a n (4096 * p) 4096) || meetsAny a n s.busyRanges ||
      (gauge != 0 && meetsAny a n [(s.fld .gauge 0 1, 8 * gauge), (s.fld .gauge 0 3, 8)]))

/-- Whether a ring or acknowledge word may lie in a byte range (R327). -/
def State.gaugeRangeOk (s : State) (a n : Nat) : Bool :=
  a + n ≤ resBytes && !s.touchesExec a n && !meetsAny a n s.busyRanges

/-- Whether a profile or, at `by_`, an XCTL of that field may give the Gauge these fields (R327; log 34). -/
def State.gaugeMay (s : State) (new : Assoc (BitVec 64)) (by_ : Option Nat) : Bool :=
  let ack := by_ == some 3
  let base := fieldNat new 1
  let words := fieldNat new 2
  let gack := fieldNat new 3
  (by_.any fun k => k == 0 || 3 < k) ||
    (base % 8 = 0 && gack % 8 = 0 && (!(ack || words != 0) || s.gaugeRangeOk gack 8) &&
      (words = 0 || (s.gaugeRangeOk base (8 * words) && !rangesMeet gack 8 base (8 * words))))

/-- The fields that a joined member may not change: CAND0 to CAND3, TAKEUNMIRRORED, VERMATCH (R358). -/
def groupFixed : List Nat := [key 1 0, key 1 1, key 1 2, key 1 3, key 1 4, key 1 5]

/-- What a value of a GROUP field means: for CANDn the members (R357). -/
def State.groupMeans (s : State) (k x : Nat) : Nat :=
  if key 1 0 ≤ k && k ≤ key 1 3 then (s.candOf (Fin.ofNat 4 (k - key 1 0)) x).toNat else x

/-- Whether a subsystem's fields may change from one set to the other (R263, R327, R358). -/
def State.mayChange (s : State) (u : Sub) (old new : Assoc (BitVec 64)) (by_ : Option Nat) : Bool :=
  match u with
  | .oxbow => s.oxbowMay old new
  | .gauge => s.gaugeMay new by_
  | .group => !s.group.joined || groupFixed.all fun k => s.groupMeans k (fieldNat old k) == s.groupMeans k (fieldNat new k)
  | _ => true

/-! ### Limits that join fields (R74, R148, Table 13.9) -/

/-- The sum of the TAP magnitudes of a lane (R148). -/
def tapMagnitude (l : Assoc (BitVec 64)) (i : Nat) : Nat := ((List.range 5).map fun t => (fieldInt l (tapKey i t)).natAbs).sum

/-- Whether a set of fields meets the limits that join fields (R74). -/
def jointOk (u : Sub) (l : Assoc (BitVec 64)) : Bool :=
  match u with
  | .lane =>
    fieldNat l 1 ≤ fieldNat l 0 && fieldNat l 3 ≤ fieldNat l 2 && fieldInt l (key 4 3) ≤ fieldInt l (key 4 4) &&
      fieldInt l (key 4 6) ≤ fieldInt l (key 4 7) && (List.range 4).all fun i => tapMagnitude l i ≤ 64
  | .oxbow => fieldNat l 0 + fieldNat l 1 ≤ 64
  | .group => 4 * fieldNat l 0 ≤ fieldNat l 1
  | _ => true

/-! ### Fields in force -/

/-- The lowest channel of a scan mask (R322). -/
def lowestChannel (m : Nat) : Option Nat := (List.range 20).find? fun c => m.testBit c

/-- A scan started from SCANMASK 0: at once, with the lowest channel (R322). -/
def State.startScan (s : State) : State :=
  let m := s.fld .gauge 0 0
  if s.gauge.visit.isNone && m != 0 then
    let c := (lowestChannel m).getD 0
    { s with gauge := { s.gauge with visit := some c, made := 0, mask := BitVec.ofNat 20 m,
                                     cfg := BitVec.ofNat 64 (s.fld .gauge 0 (key 1 c)) } }
  else s

/-- LEFTEVAL bit 2: LEVEE with DEFMODE 1, SETUPMIN 3 and PINMIN at least 2 (Table 14.10, R391). -/
def State.checkLevee (s : State) : State :=
  if s.lev 0 = 1 && s.lev 4 = 3 && 2 ≤ s.lev (key 1 0) then s else s.leftEval 2

/-- What follows at once from a subsystem's new fields. -/
def State.fieldsChanged (s : State) (u : Sub) : State :=
  match u with
  | .gauge => s.startScan.wake
  | .levee => s.checkLevee
  | .lane => allMx.foldl (fun s p => if s.lanes[p].stage = 7 then s.holdCtle p else s) s
  | _ => s

/-- An instance with new fields. -/
def State.putFields (s : State) (u : Sub) (i : Nat) (l : Assoc (BitVec 64)) : State :=
  (s.modSub u i fun x => { x with fields := l }).fieldsChanged u

/-! ### Profile instructions (R9, R72, R73) -/

/-- A profile selected for an instance; its fields are set unless it is unlocked (R9). A full scan of the port stops (R156). -/
def State.selectProfile (u : Sub) (code : Nat) (l : Assoc (BitVec 64)) (s : State) (i : Nat) : State :=
  let s := s.modSub u i fun x => { x with profile := code }
  let s := if u = .lane then s.stopScan (Fin.ofNat 2 i) else s
  if (s.sub u i).unlocked then s else s.putFields u i l

/-- Whether a profile instruction is malformed: an unused field, SX[12:6], or a reserved SUB (Table 3.12, Table 3.16). -/
def profIllegal (f : FmtS) : Bool := f.wa != 0 || f.wb != 0 || f.sx.extractLsb' 6 7 != 0 || (Sub.ofCode f.sub.toNat).isNone

/-- The subsystem that SUB names; the reserved codes are illegal before it is used. -/
def subOf (f : FmtS) : Sub := (Sub.ofCode f.sub.toNat).getD .lane

/-- A profile instruction with its subsystem (R9, R72, R73, R263, R327, R358, R448). -/
def State.profile (s : State) (u : Sub) (code inst : Nat) : Issued :=
  match profileFields u code, s.instances u inst with
  | none, _ => .except xSetup (formInfo 0)
  | _, none => .except xSetup (formInfo 13)
  | some l, some is =>
    if is.all fun i => (s.sub u i).unlocked || s.mayChange u (s.sub u i).fields l none then
      .done (is.foldl (State.selectProfile u code l) s)
    else .except xSetup (formInfo 0)

/-- A profile instruction (Table 3.12). -/
def profSetup (t : Thread) (f : FmtS) (s : State) : State :=
  setup t 0x38 f [] (profIllegal f) (fun s => s.subAbsent (subOf f) f.inst.toNat) (fun s =>
    s.profile (subOf f) (f.sx.extractLsb' 0 6).toNat f.inst.toNat) s

/-! ### EXPERT ON and EXPERT OFF (R8, R10, R11) -/

/-- An instance locked with its selected profile in full; a locked one stays as it is (R10, R11, R156). -/
def State.lockInstance (u : Sub) (s : State) (i : Nat) : State :=
  if (s.sub u i).unlocked then
    let l := (profileFields u (s.sub u i).profile).getD (s.sub u i).fields
    let s := if u = .lane then s.stopScan (Fin.ofNat 2 i) else s
    (s.modSub u i fun x => { x with unlocked := false }).putFields u i l
  else s

/-- Whether EXPERT OFF may apply the selected profile of an instance (R263, R327, R358). -/
def State.mayLock (s : State) (u : Sub) (i : Nat) : Bool :=
  !(s.sub u i).unlocked ||
    s.mayChange u (s.sub u i).fields ((profileFields u (s.sub u i).profile).getD (s.sub u i).fields) none

/-- EXPERT ON or OFF with its subsystem. -/
def State.expert (s : State) (u : Sub) (on : Bool) (inst : Nat) : Issued :=
  match s.instances u inst with
  | none => .except xSetup (formInfo 13)
  | some is =>
    if on then .done (is.foldl (fun s i => s.modSub u i fun x => { x with unlocked := true }) s)
    else if is.all (s.mayLock u) then .done (is.foldl (State.lockInstance u) s)
    else .except xSetup (formInfo 16)

/-- Whether an EXPERT instruction is malformed (Table 3.12). -/
def expertIllegal (f : FmtS) : Bool := f.wa != 0 || f.wb != 0 || decide (1 < f.sx.toNat) || (Sub.ofCode f.sub.toNat).isNone

/-- EXPERT ON and EXPERT OFF (Table 3.12). -/
def expertSetup (t : Thread) (f : FmtS) (s : State) : State :=
  setup t 0x39 f [] (expertIllegal f) (fun s => s.subAbsent (subOf f) f.inst.toNat) (fun s =>
    s.expert (subOf f) (f.sx == 1) f.inst.toNat) s

/-! ### Full eye scan (R154) -/

/-- The scan that the LANE fields describe: lanes in ascending order of logical number, as physical numbers (R154, R155;
log 35). -/
def State.scanOf (s : State) (p : MxNo) : Scan :=
  let q := s.lanes[p]
  let n := fun k => s.fld .lane p.val k
  let i := fun k => s.fldI .lane p.val k
  { addr := n (key 4 10),
    lanes := (allLanes.filter fun l => (n (key 4 1)).testBit l.val && l.val < q.lanesOf).map fun l => 4 * p.val + (q.swap l).val,
    eyes := (List.range 3).filter fun e => (n (key 4 2)).testBit e,
    started := s.plant, stopped := none, foms := allLanes.map fun l => (s.plant, l.val, q.lanes[l].fom),
    phMin := i (key 4 3), phStep := n (key 4 5), np := (i (key 4 4) - i (key 4 3)).toNat / n (key 4 5) + 1,
    vMin := i (key 4 6), vStep := n (key 4 8), nv := (i (key 4 7) - i (key 4 6)).toNat / n (key 4 8) + 1,
    dwell := n (key 4 9), rate := q.rate, result := 0 }

/-- Whether SCANGO may start the scan (R154). -/
def State.scanMay (s : State) (p : MxNo) (c : Scan) : Bool :=
  s.lanes[p].scan.isNone && s.lanes[p].stage == 7 && !c.lanes.isEmpty && c.np * c.nv ≤ 4096 && c.addr % 8 == 0 &&
    c.range.1 + c.range.2 ≤ resBytes && !s.touchesExec c.range.1 c.range.2

/-! ### XCTL (R8, R11, R74) -/

/-- Whether an XCTL or XGET is malformed (Table 3.12). -/
def accessIllegal (f : FmtS) : Bool := f.wb != 0 || decide (1 < (f.sx.extractLsb' 0 3).toNat) || (Sub.ofCode f.sub.toNat).isNone

/-- EXPERT_LOCK of an XCTL that names one instance (R11, R74, Table 3.17). -/
def State.locked (s : State) (f : FmtS) : Option (BitVec 6 × Data) :=
  if f.inst.toNat < (subOf f).count && !(s.sub (subOf f) f.inst.toNat).unlocked then
    some (xLock, (f.sub ++ f.inst ++ f.sx.extractLsb' 3 10 ++ 0#3).setWidth 64)
  else none

/-- A field that acts when it is written (R154, R160, R314, R318, R331); `none` refuses. -/
def State.act (s : State) (u : Sub) (i k : Nat) (v : BitVec 64) : Option State :=
  match u with
  | .lane =>
    let p : MxNo := Fin.ofNat 2 i
    if v = 0 then some s
    else if k = 5 then some (s.retrain p).wake
    else if s.scanMay p (s.scanOf p) then some (s.modLn p fun q => { q with scan := some (s.scanOf p), scanStat := 1 })
    else none
  | _ => some (if k = 2 then s.fpClear v.toNat else s.lpClear v.toNat)

/-- The field written, or `none` where its value is refused (R74). -/
def State.writeField (s : State) (u : Sub) (i k : Nat) (limit : Limit) (v : BitVec 64) : Option State :=
  if !limit.admits v then none
  else match limit with
    | .action _ => s.act u i k v
    | _ =>
      let l := aset k v (s.sub u i).fields
      if jointOk u l && s.mayChange u (s.sub u i).fields l (some k) then some (s.putFields u i l) else none

/-- XCTL with its subsystem, once the instance is unlocked and the operand is good (R74, R448). -/
def State.xctl (s : State) (t : Thread) (f : FmtS) : Issued :=
  let u := subOf f
  let i := f.inst.toNat
  let k := key (sxPage f) (sxField f)
  if sxPage f = 15 then .except xSetup (formInfo 9)
  else match aget k (fieldLimits u) with
    | none => .except xSetup (formInfo 3)
    | some limit =>
      if u.count ≤ i then .except xSetup (formInfo 13)
      else match s.writeField u i k limit (dataOf (s.reg t f.wa)) with
        | some s => .done s
        | none => .except xSetup (fieldInfo f.wa 0)

/-! ### Status pages (R75, R250, Tables 6.12, 7.14, 8.10, 9.6, 10.8, 10.9, 11.9, 12.8, 12.9, 13.9, 14.13) -/

/-- A mask of bits by number. -/
def maskOf (n : Nat) (p : Nat → Bool) : Nat := ((List.range n).map fun i => if p i then 2 ^ i else 0).sum

/-- LANE page 15 (Table 6.12). -/
def LanePort.status (q : LanePort) (f : Nat) : Option Nat :=
  let lane := fun l : Nat => q.lanes[q.swap (Fin.ofNat 4 l)]
  match f with
  | 0 => some q.stage
  | 1 => some q.rate.toNat
  | 2 => some q.width.toNat
  | 3 => some (if q.reversed then 1 else 0)
  | 4 => some (maskOf 4 fun i => q.lanes[Fin.ofNat 4 i].inverted)
  | 5 => some q.lastFail.toNat
  | 20 => some q.scanStat.toNat
  | 21 => some q.fomLow.toNat
  | f =>
    if 6 ≤ f && f ≤ 11 || 24 ≤ f && f ≤ 27 then some (count f q.cnt).toNat
    else if 12 ≤ f && f ≤ 15 then some (lane (f - 12)).fom.toNat
    else if 16 ≤ f && f ≤ 19 then some ((lane (f - 16)).eyeH.toNat + 256 * (lane (f - 16)).eyeW.toNat)
    else none

/-- MXT page 15 (Table 7.14). -/
def Mxt.status (m : Mxt) (f : Nat) : Option Nat :=
  if f = 0 then some m.epid.toNat
  else if f = 1 then some m.reqs.length
  else if f ≤ 13 then some (count f m.cnt).toNat
  else if f = 14 then some m.segno.toNat
  else none

/-- STATE of a Parene port (Table 8.10). -/
def Pb.state (b : Pb) : Nat :=
  if !(b.enabled || b.disabling || b.releasing) || b.phase == .off then 0
  else if b.ext != .none then 5
  else if b.phase != .normal then 1
  else if b.tenure.isSome then 4
  else if b.cyc.isSome then 3
  else 2

/-- PARENE page 15 (Tables 8.10 and 9.6). -/
def Pb.status (b : Pb) (f : Nat) : Option Nat :=
  if f = 0 then some b.state
  else if f = 1 then some (if b.ext == .low then 1 else 0)
  else if f = 2 then some b.irqPend.toNat
  else if f = 20 then some b.lateLast.toNat
  else if f ≤ 23 then some (count f b.cnt).toNat
  else none

/-- WEIR page 15 (Table 10.8). -/
def Pb.weirStatus (b : Pb) (f : Nat) : Option Nat :=
  if f % 8 = 6 then some (((b.classes[Fin.ofNat 8 (f / 8)]).map WeirClass.avail).getD 0 / 1000)
  else if f = 7 then some b.jobs.length
  else if f % 8 = 7 && 31 ≤ f then some 0
  else some (count f b.wcnt).toNat

/-- JSTATE (Table 10.9; log 36). -/
def State.jstate (s : State) : Nat :=
  if !s.journalOn then 0 else if !s.mirrorOn then 1 else if allPb.any fun n => s.mirrorPeers n != 0 then 2 else 3

/-- OXBOW page 15 (Table 10.9). -/
def State.oxbowStatus (s : State) (f : Nat) : Option Nat :=
  if f = 0 then some s.jstate
  else if f = 1 then some s.freeLines
  else if f ≤ 5 then some s.pb[(Fin.ofNat 4 (f - 2) : PbNo)].jsn
  else if f ≤ 16 then some (count f s.journal.cnt).toNat
  else none

/-- LINKKEYS of a port (Table 14.13). -/
def Mxt.linkKeys (m : Mxt) : Nat :=
  maskOf 4 (fun e => m.rxKeys[Fin.ofNat 4 e].isSome) +
    (match m.txKey with
      | some k => 16 * k.epoch.toNat + 64
      | none => 0)

/-- LEVEE page 15 (Table 14.13). -/
def State.leveeStatus (s : State) (f : Nat) : Option Nat :=
  match f with
  | 0 => some (if s.sec.leftEval = 0 then 1 else 0)
  | 1 => some s.sec.leftEval.toNat
  | 2 => some (match s.sec.otp.life with
      | .provision => 0
      | .field => 1
      | .retired => 2)
  | 3 => some s.debugLevel.toNat
  | 4 => some s.sec.tamperRec.toNat
  | 14 => some s.sec.authTrips[0].toNat
  | 15 => some s.sec.authTrips[1].toNat
  | 24 => some s.mxt[0].linkKeys
  | 25 => some s.mxt[1].linkKeys
  | f =>
    if 5 ≤ f && f ≤ 13 then some (count f s.sec.cnt).toNat
    else if 16 ≤ f && f ≤ 23 then
      some (match s.sec.slots[Fin.ofNat 8 (f - 16)] with
        | some k => 2 ^ 32 + k.uses.toNat % 2 ^ 32
        | none => 0)
    else none

/-- RIFFLE page 15 (Table 11.9). -/
def State.riffleStatus (s : State) (e : EngNo) (f : Nat) : Option Nat :=
  let x := s.engines[e]
  if f = 0 then some (if x.running then 1 else 0)
  else if f = 1 then some x.cycles.toNat
  else if f = 2 then some x.flags.toNat
  else if f = 3 then some ((s.engineWord e).extractLsb' 16 16).toNat
  else if 16 ≤ f && f ≤ 31 then some s.chans[chanNo e (f - 16)].pc.toNat
  else none

/-- The code of Table 12.2. -/
def FpProt.code : FpProt → Nat
  | .normal => 0 | .limit => 1 | .off => 2 | .latched => 3

/-- FIELD page 15 (Table 12.8). -/
def Field.status (x : Field) (f : Nat) : Option Nat :=
  if f = 0 then some (((List.range 16).map fun i => 4 ^ i * x.fp[Fin.ofNat 16 i].prot.code).sum)
  else if f = 1 then some (maskOf 16 fun i => x.fp[Fin.ofNat 16 i].short)
  else if f = 2 then some (maskOf 16 fun i => x.lp[Fin.ofNat 16 i].off)
  else if f ≤ 6 then some (count f x.cnt).toNat
  else if 16 ≤ f && f ≤ 31 then some x.fp[Fin.ofNat 16 (f - 16)].backoff
  else none

/-- GAUGE page 15 (Table 12.9). -/
def Gauge.status (g : Gauge) (f : Nat) : Option Nat :=
  if f = 0 then some g.seq.toNat
  else if f = 1 then some g.overrun.toNat
  else if f = 2 then some g.alarms.toNat
  else if 8 ≤ f && f ≤ 27 then some g.last[Fin.ofNat 20 (f - 8)].toNat
  else none

/-- GROUP page 15 (Table 13.9). -/
def State.groupStatus (s : State) (f : Nat) : Option Nat :=
  let b := s.group.stewardBits
  if f = 0 then some s.gstate.toNat
  else if f = 1 then some s.group.epoch.toNat
  else if f = 2 then some s.group.view.toNat
  else if f = 3 then some s.seen.toNat
  else if f = 4 then some (b.1.toNat + 256 * b.2.toNat)
  else if f = 5 then some s.group.lastDis.toNat
  else if f ≤ 11 then some (count f s.group.cnt).toNat
  else none

/-- TIME page 15 (Table 13.9): OFFSET is the newest offset, signed. -/
def State.timeStatus (s : State) (f : Nat) : Option Nat :=
  if f = 0 then some s.time.state.toNat
  else if f = 1 then some (s64 (s.time.offsets.headD 0)).toNat
  else if f = 2 then some s.time.reference.toNat
  else if f = 3 then some s.time.tsteps.toNat
  else none

/-- Page 15 of a subsystem instance. -/
def State.status (s : State) (u : Sub) (i f : Nat) : Option Nat :=
  match u with
  | .lane => s.lanes[(Fin.ofNat 2 i : MxNo)].status f
  | .mxt => s.mxt[(Fin.ofNat 2 i : MxNo)].status f
  | .parene => s.pb[(Fin.ofNat 4 i : PbNo)].status f
  | .weir => s.pb[(Fin.ofNat 4 i : PbNo)].weirStatus f
  | .oxbow => s.oxbowStatus f
  | .levee => s.leveeStatus f
  | .riffle => s.riffleStatus (Fin.ofNat 4 i) f
  | .field => s.field.status f
  | .gauge => s.gauge.status f
  | .group => s.groupStatus f
  | .time => s.timeStatus f

/-! ### XGET (R75) -/

/-- What XGET reads: a status field, a field's value, 0 for one that acts when written (R4, R75, R331). -/
def State.xgetValue (s : State) (u : Sub) (i page field : Nat) : Option Data :=
  if page = 15 then (s.status u i field).map (BitVec.ofNat 64)
  else match aget (key page field) (fieldLimits u) with
    | none => none
    | some (.action _) => some 0
    | some _ =>
      if u = .group then some (BitVec.ofNat 64 (s.groupMeans (key page field) (s.fld .group 0 (key page field))))
      else some ((s.sub u i).get (key page field))

/-- XGET (R75, R448). -/
def State.xget (s : State) (t : Thread) (f : FmtS) : Issued :=
  let u := subOf f
  if f.inst.toNat < u.count then
    match s.xgetValue u f.inst.toNat (sxPage f) (sxField f) with
    | some d => .done (s.setReg t f.wa (constWord d))
    | none => .except xSetup (formInfo 3)
  else if (s.xgetValue u 0 (sxPage f) (sxField f)).isNone then .except xSetup (formInfo 3)
  else .except xSetup (formInfo 13)

/-- XGET at its commit. -/
def xgetAt (t : Thread) (f : FmtS) : State → Issued :=
  setupAt t 0x3A f [] (accessIllegal f) (fun s => s.subAbsent (subOf f) f.inst.toNat) fun s => s.xget t f

/-- Opcode 0x3A: XCTL or, with SX[2:0] = 1, XGET (Table 3.12). -/
def accessSetup (t : Thread) (f : FmtS) (s : State) : State :=
  if f.sx.extractLsb' 0 3 = 1 then s.issue t (encS 0x3A f) [] true (xgetAt t f)
  else
    setup t 0x3A f [f.wa] (accessIllegal f)
      (fun s => (s.subAbsent (subOf f) f.inst.toNat).orElse fun _ => s.locked f) (fun s => s.xctl t f) s

/-! ### Meanings -/

/-- LANEPROF. -/
def execLaneprof (t : Thread) (f : FmtS) (s : State) : Host.Outcome State Fault Refusal := .next (profSetup t f s)

/-- LINKPROF. -/
def execLinkprof (t : Thread) (f : FmtS) (s : State) : Host.Outcome State Fault Refusal := .next (profSetup t f s)

/-- PORTPROF. -/
def execPortprof (t : Thread) (f : FmtS) (s : State) : Host.Outcome State Fault Refusal := .next (profSetup t f s)

/-- WEIRPROF. -/
def execWeirprof (t : Thread) (f : FmtS) (s : State) : Host.Outcome State Fault Refusal := .next (profSetup t f s)

/-- JRNLPROF. -/
def execJrnlprof (t : Thread) (f : FmtS) (s : State) : Host.Outcome State Fault Refusal := .next (profSetup t f s)

/-- LEVEEPROF. -/
def execLeveeprof (t : Thread) (f : FmtS) (s : State) : Host.Outcome State Fault Refusal := .next (profSetup t f s)

/-- RIFPROF. -/
def execRifprof (t : Thread) (f : FmtS) (s : State) : Host.Outcome State Fault Refusal := .next (profSetup t f s)

/-- FIELDPROF. -/
def execFieldprof (t : Thread) (f : FmtS) (s : State) : Host.Outcome State Fault Refusal := .next (profSetup t f s)

/-- GAUGEPROF. -/
def execGaugeprof (t : Thread) (f : FmtS) (s : State) : Host.Outcome State Fault Refusal := .next (profSetup t f s)

/-- GROUPPROF. -/
def execGroupprof (t : Thread) (f : FmtS) (s : State) : Host.Outcome State Fault Refusal := .next (profSetup t f s)

/-- TIMEPROF. -/
def execTimeprof (t : Thread) (f : FmtS) (s : State) : Host.Outcome State Fault Refusal := .next (profSetup t f s)

/-- EXPERT ON. -/
def execExpertOn (t : Thread) (f : FmtS) (s : State) : Host.Outcome State Fault Refusal := .next (expertSetup t f s)

/-- EXPERT OFF. -/
def execExpertOff (t : Thread) (f : FmtS) (s : State) : Host.Outcome State Fault Refusal := .next (expertSetup t f s)

/-- XCTL. -/
def execXctl (t : Thread) (f : FmtS) (s : State) : Host.Outcome State Fault Refusal := .next (accessSetup t f s)

/-- XCTL of RETRAIN. -/
def execRetrain (t : Thread) (f : FmtS) (s : State) : Host.Outcome State Fault Refusal := .next (accessSetup t f s)

/-- XCTL of SCANGO. -/
def execScango (t : Thread) (f : FmtS) (s : State) : Host.Outcome State Fault Refusal := .next (accessSetup t f s)

/-- XCTL of FPCLEAR. -/
def execFpclear (t : Thread) (f : FmtS) (s : State) : Host.Outcome State Fault Refusal := .next (accessSetup t f s)

/-- XCTL of LPCLEAR. -/
def execLpclear (t : Thread) (f : FmtS) (s : State) : Host.Outcome State Fault Refusal := .next (accessSetup t f s)

/-- XGET. -/
def execXget (t : Thread) (f : FmtS) (s : State) : Host.Outcome State Fault Refusal := .next (accessSetup t f s)

end Sys2Proof.Machine
end

