-- ==== Sys2Proof/Machine/Keyed.lean ====
section
/-! DEFINITION. Keyed instructions: GCMSEAL, GCMOPEN, IDSIGN and RANDOM (R359, R372 to R379, R385, R451). -/

namespace Sys2Proof.Machine

/-! ### Status (Table 14.6) -/

/-- A keyed status word: constant tag, bits [63:8] 0 (R373). -/
def keyedStatus (c : BitVec 8) : Word := constWord (c.setWidth 64)

/-- Of several problems the spec does not say which is reported: one of them, by a free value (log 29). -/
def State.pickStatus (s : State) (l : List (BitVec 8)) : State × BitVec 8 :=
  match l with
  | [c] => (s, c)
  | _ => let d := s.draw; (d.2, l.getD (d.1.toNat % l.length) 0x12)

/-- An operation that answers a problem: it has read `reads` and changes nothing. -/
def CpOut.problem (s : State) (l : List (BitVec 8)) (reads : List Nat) : CpOut :=
  let p := s.pickStatus l
  .go p.1 { results := [keyedStatus p.2], writes := [], reads := reads }

/-- A keyed instruction; WB and IMM8 are 0 (text before R373). -/
def keyedInsn (t : Thread) (cf : BitVec 7) (u : CpUnit) (f : FmtC) (latency : State → Nat) (act : State → Word → CpOut) :
    CpInsn :=
  { cf := cf, unit := u, effect := true, srcs := [f.wa], wds := [f.wd], latency := latency, fmt := f,
    illegal := f.wb != 0 || f.imm8 != 0, act := fun s => act s (s.reg t f.wa) }

/-- A keyed instruction with a descriptor of `n` bytes at WA: the faults of R373, then the drains of R113. -/
def State.descriptorOp (s : State) (t : Thread) (n : Nat) (w : Word) (body : State → Nat → CpOut) : CpOut :=
  let a := (dataOf w).toNat
  match s.rangeFault a n true with
  | some c => .fault c
  | none => match s.drainFirst t [(a, n)] with
    | some s => .stall s
    | none => body s a

/-! ### Keys -/

/-- A key and salt from 36 bytes of plaintext (text under Table 14.7). -/
def keyOf (l : List Byte) : KeySlot :=
  { key := BitVec.ofNat 256 (beNat (l.take 32)), salt := BitVec.ofNat 32 (beNat ((l.drop 32).take 4)), uses := 0 }

/-- The bytes of a slot's key. -/
def KeySlot.bytes (k : KeySlot) : List Byte := beBytes 32 k.key.toNat

/-- The nonce of GCMSEAL: the salt and the use counter, big-endian (R374). -/
def KeySlot.nonce (k : KeySlot) : List Byte := beBytes 4 k.salt.toNat ++ beBytes 8 k.uses.toNat

/-- A key slot changed. -/
def State.setSlot (s : State) (i : Fin 8) (k : Option KeySlot) : State :=
  { s with sec := { s.sec with slots := s.sec.slots.set i k } }

/-- A slot's use counter raised by 1. -/
def State.useSlot (s : State) (i : Fin 8) (k : KeySlot) : State := s.setSlot i (some { k with uses := k.uses + 1 })

/-- The identity private key, in 1 to n - 1 (R359). -/
def identityScalar : Nat := 1 + Config.identityKey % (p384N - 1)

/-- The identity public key, x then y. -/
def identityPublic : Nat × Nat := (p384Mul 384 identityScalar (some p384G)).getD (0, 0)

/-- Whether IDSIGN can use the identity key (R361, R385). -/
def State.identityUsable (s : State) : Bool := s.sec.identity && s.sec.otp.idWrap && s.sec.otp.pufHelp

/-! ### Writing results -/

/-- Bytes written from a Reservoir address on, under one tag, as the parts of the words they touch (R26). -/
def byteParts (tag : Byte) (a : Nat) (l : List Byte) : List StorePart :=
  (spanned a l.length).map fun w =>
    { word := w, be := byteMask a l.length w, tag := tag,
      data := ofBytes fun i => if a ≤ 8 * w + i then l.getD (8 * w + i - a) 0 else 0 }

/-- Eight bytes of a list as a word's data, byte i at [8i+7:8i]. -/
def wordAt (l : List Byte) (k : Nat) : Data := ofBytes fun i => l.getD (8 * k + i) 0

/-- A whole word written. -/
def wholePart (w : Nat) (tag : Byte) (d : Data) : StorePart := { word := w, data := d, be := 0xFF, tag := tag }

/-! ### The GCM descriptor (Table 14.7) -/

/-- A descriptor as read. -/
structure GcmDesc where
  at_ : Nat
  slot : Fin 8
  dest : Nat
  dslot : Fin 8
  dport : Nat
  receive : Bool
  epoch : BitVec 2
  len : Nat
  src : Nat
  dst : Nat
  aad : Nat
  aadLen : Nat

/-- Bits of word k of a descriptor. -/
def State.descBits (s : State) (a k lo n : Nat) : Nat := ((dataOf (s.res.deliver (a / 8 + k))).extractLsb' lo n).toNat

/-- The fields of a descriptor. -/
def State.gcmDesc (s : State) (a : Nat) : GcmDesc :=
  { at_ := a, slot := Fin.ofNat 8 (s.descBits a 0 0 3), dest := s.descBits a 0 4 2, dslot := Fin.ofNat 8 (s.descBits a 0 6 3),
    dport := s.descBits a 0 9 2, receive := s.descBits a 0 11 1 = 1, epoch := BitVec.ofNat 2 (s.descBits a 0 12 2),
    len := s.descBits a 0 32 17, src := s.descBits a 1 0 26, dst := s.descBits a 1 32 26, aad := s.descBits a 2 0 26,
    aadLen := s.descBits a 2 32 13 }

/-- Whether the unnamed bits of a descriptor, and its word 7, are 0. -/
def State.gcmUnnamed (s : State) (a : Nat) : Bool :=
  s.descBits a 0 3 1 == 0 && s.descBits a 0 14 18 == 0 && s.descBits a 0 49 15 == 0 && s.descBits a 1 26 6 == 0 &&
    s.descBits a 1 58 6 == 0 && s.descBits a 2 26 6 == 0 && s.descBits a 2 45 19 == 0 && s.descBits a 4 32 32 == 0 &&
    s.descBits a 7 0 64 == 0

/-- The words of a descriptor of `n` words. -/
def descWords (a n : Nat) : List Nat := (List.range n).map fun k => a / 8 + k

/-- Whether DST is used: GCMSEAL and DEST 0. -/
def GcmDesc.writesDst (d : GcmDesc) (seal_ : Bool) : Bool := seal_ || d.dest == 0

/-- Whether SRC and DST overlap in part. -/
def GcmDesc.overlaps (d : GcmDesc) : Bool :=
  d.src != d.dst && decide (d.src < d.dst + d.len) && decide (d.dst < d.src + d.len)

/-- Status 0x12. -/
def State.gcmReserved (s : State) (d : GcmDesc) (seal_ : Bool) : Bool :=
  !s.gcmUnnamed d.at_ || d.dest == 3 || (seal_ && d.dest != 0) || decide (65536 < d.len) ||
    decide (4096 < d.aadLen) || ((d.dest == 1 || d.dest == 2) && d.len != 36) || (d.dest == 2 && decide (2 ≤ d.dport)) ||
    (d.writesDst seal_ && d.overlaps)

/-- Whether a range is misaligned, leaves the Reservoir, or touches an executable page or the journal region. -/
def State.badRange (s : State) (a n : Nat) : Bool := a % 8 != 0 || decide (resBytes < a + n) || s.touchesExec a n

/-- The ranges that an instruction touches. -/
def GcmDesc.ranges (d : GcmDesc) (seal_ : Bool) : List (Nat × Nat) :=
  [(d.src, d.len), (d.aad, d.aadLen)] ++ (if d.writesDst seal_ then [(d.dst, d.len)] else [])

/-- The problems of Table 14.6 that a descriptor meets. -/
def State.gcmProblems (s : State) (d : GcmDesc) (seal_ : Bool) : List (BitVec 8) :=
  let bad := fun (w : Nat) => !isGood (s.res.deliver w)
  let l : List (Bool × BitVec 8) :=
    [(s.gcmReserved d seal_, 0x12), (d.dest == 2 && d.dport == 1 && !s.hasMx 1, 0x13), (s.sec.slots[d.slot].isNone, 0x10),
     (s.sec.slots[d.slot].any fun k => 2 ^ 32 ≤ k.uses.toNat, 0x11),
     ((descWords d.at_ 8).any bad || ((d.dest == 1 || d.dest == 2) && (spanned d.src d.len).any bad), 0x14),
     ((d.ranges seal_).any fun r => s.badRange r.1 r.2, 0x16)]
  (l.filter Prod.fst).map Prod.snd

/-! ### GCMSEAL and GCMOPEN (R374, R375, R378) -/

/-- GCMSEAL of a good descriptor (R374, R378). -/
def State.gcmSeal (s : State) (d : GcmDesc) (k : KeySlot) : CpOut :=
  let keys := aesKeys k.bytes
  let aad := s.unitBytes d.aad d.aadLen
  let c := gcmCrypt keys k.nonce (s.unitBytes d.src d.len)
  let tag := gcmTag keys k.nonce aad c
  let t := mergeTags (s.unitTags d.src d.len ++ s.unitTags d.aad d.aadLen)
  .go (s.useSlot d.slot k)
    { results := [keyedStatus 0x01],
      writes := byteParts t d.dst c ++
        [wholePart (d.at_ / 8 + 3) t (wordAt k.nonce 0), wholePart (d.at_ / 8 + 4) t (wordAt k.nonce 1),
         wholePart (d.at_ / 8 + 5) t (wordAt tag 0), wholePart (d.at_ / 8 + 6) t (wordAt tag 1)],
      reads := descWords d.at_ 8 ++ spanned d.src d.len ++ spanned d.aad d.aadLen }

/-- A link key installed (R375, R379, R381). -/
def State.installLinkKey (s : State) (d : GcmDesc) (k : KeySlot) : State :=
  let key : LinkKey := { key := k.key, salt := k.salt, epoch := d.epoch, high := none }
  s.modMxt (Fin.ofNat 2 d.dport) fun m =>
    if d.receive then { m with rxKeys := m.rxKeys.set d.epoch.toFin (some key) } else { m with nextKey := some key }

/-- GCMOPEN of a good descriptor (R375, R378). -/
def State.gcmOpen (s : State) (d : GcmDesc) (k : KeySlot) : CpOut :=
  let keys := aesKeys k.bytes
  let nonce := (s.unitBytes (d.at_ + 24) 12)
  let aad := s.unitBytes d.aad d.aadLen
  let c := s.unitBytes d.src d.len
  let reads := descWords d.at_ 8 ++ spanned d.src d.len ++ spanned d.aad d.aadLen
  let s1 := s.useSlot d.slot k
  if gcmTag keys nonce aad c != s.unitBytes (d.at_ + 40) 16 then
    .go (s1.bumpLev 13) { results := [keyedStatus 0x00], writes := [], reads := reads }
  else
    let p := gcmCrypt keys nonce c
    let t := mergeTags (s.unitTags d.src d.len ++ s.unitTags d.aad d.aadLen ++ s.unitTags (d.at_ + 24) 32)
    let r : CpResult := { results := [keyedStatus 0x01], writes := [], reads := reads }
    match d.dest with
    | 0 => .go s1 { r with writes := byteParts t d.dst p }
    | 1 => .go (s1.setSlot d.dslot (some (keyOf p))) r
    | _ => .go (s1.installLinkKey d (keyOf p)) r

/-- GCMSEAL or GCMOPEN with its descriptor at `a`: it reads its operands once the thread's own entries there have drained, and
once no older unit operation of the thread has still to write where it writes (R113, R373, R378, R451). -/
def State.gcm (s : State) (t : Thread) (seal_ : Bool) (a : Nat) : CpOut :=
  let d := s.gcmDesc a
  match s.drainFirst t (d.ranges seal_) with
  | some s => .stall s
  | none =>
    if (seal_ && s.unitPending t a 64) || (d.writesDst seal_ && s.unitPending t d.dst d.len) then .stall s
    else
      let l := s.gcmProblems d seal_
      if !l.isEmpty then .problem s l (descWords a 8)
      else match s.sec.slots[d.slot] with
        | none => .problem s [0x10] (descWords a 8)
        | some k => if seal_ then s.gcmSeal d k else s.gcmOpen d k

/-- The latency of GCMSEAL and GCMOPEN (Table 4.4). -/
def State.gcmLatency (s : State) (a : Nat) : Nat := 60 + (s.descBits a 0 32 17 + 15) / 16

/-- GCMSEAL and GCMOPEN. -/
def gcmInsn (t : Thread) (cf : BitVec 7) (seal_ : Bool) (f : FmtC) : CpInsn :=
  keyedInsn t cf .aes f (fun s => s.gcmLatency (dataOf (s.reg t f.wa)).toNat) fun s w =>
    s.descriptorOp t 64 w fun s a => s.gcm t seal_ a

/-- GCMSEAL. -/
def gcmSealInsn (t : Thread) (f : FmtC) : CpInsn := gcmInsn t 0x10 true f

/-- GCMOPEN. -/
def gcmOpenInsn (t : Thread) (f : FmtC) : CpInsn := gcmInsn t 0x11 false f

/-! ### IDSIGN (R376) -/

/-- The number in the 48-byte field at byte `off` of a descriptor. -/
def State.idField (s : State) (a off : Nat) : Nat := beNat (s.unitBytes (a + off) 48)

/-- The problems of an IDSIGN descriptor; MODE 2 and 3 give 0x12 (R376). -/
def State.idProblems (s : State) (a : Nat) : List (BitVec 8) :=
  let mode := s.descBits a 0 0 2
  if 2 ≤ mode then [0x12]
  else
    let l : List (Bool × BitVec 8) :=
      [(s.descBits a 0 5 59 != 0, 0x12), (!s.identityUsable, 0x10),
       ((descWords a 19).any fun w => !isGood (s.res.deliver w), 0x14), (mode = 0 && !Config.healthy s.free, 0x15)]
    (l.filter Prod.fst).map Prod.snd

/-- The random source's state, seeded again where it was erased (R377, R385). -/
def State.seedDrbg (s : State) : State := { s with sec := { s.sec with drbg := true } }

/-- A number in 1 to n - 1 from the random source. -/
def State.drawScalar (s : State) : Nat × State :=
  let d := s.seedDrbg.drawN 6
  (1 + (d.1.foldl (fun n w => 2 ^ 64 * n + w.toNat) 0) % (p384N - 1), d.2)

/-- IDSIGN SIGN: r to B and s to C, with constant tag (R376, R378). -/
def State.idSign (s : State) (a : Nat) : CpOut :=
  let k := s.drawScalar
  let sg := ecdsaSign (s.idField a 8) identityScalar k.1
  .go k.2
    { results := [keyedStatus 0x01],
      writes := byteParts constTag (a + 56) (beBytes 48 sg.1) ++ byteParts constTag (a + 104) (beBytes 48 sg.2),
      reads := descWords a 19 }

/-- IDSIGN AGREE: SHA-384 of Z and the context gives slot DSLOT its key and salt (R376). -/
def State.idAgree (s : State) (a : Nat) : CpOut :=
  let x := s.idField a 8
  let y := s.idField a 56
  let r : CpResult := { results := [keyedStatus 0x01], writes := [], reads := descWords a 19 }
  if !p384On x y then .go s { r with results := [keyedStatus 0x00] }
  else
    let z := ((p384Mul 384 identityScalar (some (x, y))).map Prod.fst).getD 0
    .go (s.setSlot (Fin.ofNat 8 (s.descBits a 0 2 3)) (some (keyOf (sha384 (beBytes 48 z ++ s.unitBytes (a + 104) 48))))) r

/-- IDSIGN by the MODE of its descriptor (R376, R451). -/
def State.idsign (s : State) (t : Thread) (a : Nat) : CpOut :=
  let l := s.idProblems a
  if s.unitPending t a 152 then .stall s
  else if !l.isEmpty then .problem s l (descWords a 19)
  else if s.descBits a 0 0 2 = 1 then s.idAgree a
  else s.idSign a

/-- IDSIGN. -/
def idsignInsn (t : Thread) (f : FmtC) : CpInsn :=
  keyedInsn t 0x12 .ec f (fun _ => 380000) fun s w => s.descriptorOp t 152 w fun s a => s.idsign t a

/-! ### RANDOM (R377) -/

/-- RANDOM by WA[4:3]. -/
def State.random (s : State) (w : Word) : CpOut :=
  let form := ((dataOf w).extractLsb' 3 2).toNat
  let slot : Fin 8 := Fin.ofNat 8 (dataOf w).toNat
  if form = 3 then .word s (keyedStatus 0x12)
  else if form = 2 then .word (s.setSlot slot none) (keyedStatus 0x01)
  else if !Config.healthy s.free then .word { s with free := s.free + 1 } (if form = 0 then emptyWord else keyedStatus 0x15)
  else if form = 0 then let d := s.seedDrbg.draw; .word d.2 (constWord d.1)
  else
    let d := s.seedDrbg.drawN 5
    .word (d.2.setSlot slot (some (keyOf (d.1.flatMap fun w => beBytes 8 w.toNat)))) (keyedStatus 0x01)

/-- RANDOM. -/
def randomInsn (t : Thread) (f : FmtC) : CpInsn := keyedInsn t 0x13 .rng f (fun _ => 24) State.random

/-! ### Meanings -/

/-- GCMSEAL (R374). -/
def execGcmseal (t : Thread) (f : FmtC) (s : State) : Next := .next (coprocessor t (gcmSealInsn t f) s)

/-- GCMOPEN (R375). -/
def execGcmopen (t : Thread) (f : FmtC) (s : State) : Next := .next (coprocessor t (gcmOpenInsn t f) s)

/-- IDSIGN, MODE 0 (R376). -/
def execIdsignSign (t : Thread) (f : FmtC) (s : State) : Next := .next (coprocessor t (idsignInsn t f) s)

/-- IDSIGN, MODE 1 (R376). -/
def execIdsignAgree (t : Thread) (f : FmtC) (s : State) : Next := .next (coprocessor t (idsignInsn t f) s)

/-- RANDOM with WA[4:3] = 0 (R377). -/
def execRandomBits (t : Thread) (f : FmtC) (s : State) : Next := .next (coprocessor t (randomInsn t f) s)

/-- RANDOM with WA[4:3] = 1 (R377). -/
def execRandomLoadSlot (t : Thread) (f : FmtC) (s : State) : Next := .next (coprocessor t (randomInsn t f) s)

/-- RANDOM with WA[4:3] = 2 (R377). -/
def execRandomEraseSlot (t : Thread) (f : FmtC) (s : State) : Next := .next (coprocessor t (randomInsn t f) s)

end Sys2Proof.Machine
end

