-- ==== Sys2Proof/Machine/Commit.lean ====
section
/-! DEFINITION. Commit: what the instructions in the commit queues do when they reach CM, the requests that wait for a coprocessor
unit, and the events that let them go on (R82, R85, R87, R89, R90, R96, R98, R114). -/

namespace Sys2Proof.Machine

/-! ### What an instruction does when it starts -/

/-- The coprocessor instruction that an encoding spells (Table 3.11). -/
def cpInsnOf (t : Thread) (e : BitVec 36) : Option CpInsn :=
  let f := fmtC e
  match opField e, cfField e with
  | 0x30, 0x01 => some (rifControl t 0x01 State.rifStart f)
  | 0x30, 0x02 => some (rifControl t 0x02 State.rifStop f)
  | 0x30, 0x03 => some (rifPushInsn t f)
  | 0x30, 0x04 => some (rifPopInsn t f)
  | 0x30, 0x05 => some (rifStat t f)
  | 0x30, 0x06 => some (rifClear t f)
  | 0x31, 0x01 => some (crc32cInsn t f)
  | 0x31, 0x02 => some (crc16Insn t f)
  | 0x31, 0x03 => some (crc8Insn t f)
  | 0x31, 0x04 => some (csum16Insn t f)
  | 0x32, 0x01 => some (hash384Insn t f)
  | 0x32, 0x02 => some (ecverifyInsn t f)
  | 0x32, 0x10 => some (gcmSealInsn t f)
  | 0x32, 0x11 => some (gcmOpenInsn t f)
  | 0x32, 0x12 => some (idsignInsn t f)
  | 0x32, 0x13 => some (randomInsn t f)
  | 0x33, 0x01 => some (jstatInsn t f)
  | 0x33, 0x02 => some (jsyncInsn t f)
  | 0x33, 0x03 => some (jdrainInsn t f)
  | 0x33, 0x04 => some (jpoisonInsn t f)
  | _, _ => none

/-- The SYS instructions that wait for their commit in the queue (Table 3.8). -/
def sysStart (t : Thread) (e : BitVec 36) (s : State) : Issued :=
  let f := fmtR e
  match fnField e with
  | 0x02 => sysAt 0x02 f SysUse.none (haltAt t) s
  | 0x05 => sysAt 0x05 f SysUse.immOnly (trapAt t f) s
  | 0x07 => sysAt 0x07 f SysUse.waImm (tstartAt t f) s
  | 0x08 => sysAt 0x08 f SysUse.immOnly (tstopAt t f) s
  | 0x0C => sysAt 0x0C f SysUse.wdOnly (fun s => .done (s.takeMb t f.wd)) s
  | _ => .stall s

/-- The start of an instruction that has waited in the queue (R50, R82). -/
def startInsn (t : Thread) (e : BitVec 36) (s : State) : Issued :=
  match opField e with
  | 0x01 => sysStart t e s
  | 0x14 => storeAt t 0x14 .word (fmtI e) s
  | 0x15 => storeAt t 0x15 .byte (fmtI e) s
  | 0x16 => storeAt t 0x16 .half (fmtI e) s
  | 0x17 => storeAt t 0x17 .quad (fmtI e) s
  | 0x19 => storeAt t 0x19 .pair (fmtI e) s
  | 0x1B => storeCondAt t (fmtR e) s
  | 0x1C => externalAt t 0x1C .ldx (fmtX e) s
  | 0x1D => externalAt t 0x1D .stx (fmtX e) s
  | 0x1E => externalAt t 0x1E .xrdb (fmtX e) s
  | 0x1F => externalAt t 0x1F .xwrb (fmtX e) s
  | 0x3A => xgetAt t (fmtS e) s
  | _ => match cpInsnOf t e with
    | some i => i.start t s
    | none => .stall s

/-! ### Commit of the head of a queue -/

/-- What the thread's registers and queue become when an instruction that has waited starts, `rf` being the registers that its start
left: each register that awaited the instruction's k-th result holds it, or awaits the number that now produces it. -/
def ThreadSt.adopt (th : ThreadSt) (id : Nat) (wds : List Reg) (rf : RegFile) : ThreadSt :=
  wds.zipIdx.foldl (fun th p => th.rename (id + p.2) rf.waits[p.1] rf.regs[p.1]) th

/-- The registers that a queued instruction writes. -/
def CqEntry.wds (e : CqEntry) : List Reg := ((useOf e.enc).map fun k => k.wds).getD []

/-- The state in which the head of a thread's queue starts: its own registers and IA, the younger instructions behind it. -/
def State.atHead (s : State) (t : Thread) (e : CqEntry) (rest : List CqEntry) : State :=
  s.modThread t fun th => { th with rf := e.ckpt, ia := e.ia, cq := rest }

/-- The head has committed with the effect that stands in `n`; the thread's registers and IA go on from where issue has come. -/
def State.headDone (s : State) (t : Thread) (e : CqEntry) (n : State) : State :=
  let rf := (n.thr t).rf
  n.modThread t fun th => { th with rf := (s.thr t).rf, ia := (s.thr t).ia }.adopt e.id e.wds rf

/-- The head raises an exception: the younger instructions are squashed (R61, R62, R85). -/
def State.headExcept (s : State) (t : Thread) (e : CqEntry) (c : BitVec 6) (i : BitVec 64) : State :=
  ((s.squashFrom t 1).atHead t e []).except t c i e.ia

/-- The head of a thread's queue starts at its commit (R50): whether it has, and the state then. A HALT, and an exception taken,
squash the younger instructions (R85). -/
def State.startHead (s : State) (t : Thread) (e : CqEntry) (rest : List CqEntry) : Bool × State :=
  match startInsn t e.enc (s.atHead t e rest) with
  | .done n =>
    let n := s.headDone t e n
    (true, if (n.thr t).run = .running then n else n.squashFrom t 0)
  | .jump n ia => (true, ((s.headDone t e n).squashFrom t 0).modThread t fun th => { th with ia := ia })
  | .except c i => (true, s.headExcept t e c i)
  | .stall n => (false, n.modThread t fun th => { th with rf := (s.thr t).rf, ia := (s.thr t).ia, cq := e :: th.cq })
  | _ => (false, s)

/-- The head of a thread's queue commits if it can (R82): a load has its effects (R87, R96), an instruction that starts at commit
starts (R50), an exception is raised (R61). Its own code word's correctable error is corrected then (R87). -/
def State.commitHead (s : State) (t : Thread) : Bool × State :=
  match (s.thr t).cq with
  | [] => (false, s)
  | e :: _ =>
    let c := s.correctWord (e.ia.toNat / 2)
    let n := c.modThread t fun th => { th with cq := th.cq.drop 1 }
    match e.what with
    | .done => (true, n)
    | .returned _ eff => (true, eff.foldl (State.applyDeferred t) n)
    | .fault x i => (true, c.headExcept t e x i)
    | .start => c.startHead t e ((c.thr t).cq.drop 1)
    | _ => (false, s)

/-- The unit that the head of a thread's queue asks for with an EFFECT request (R89). -/
def ThreadSt.headUnit (th : ThreadSt) : Option CpUnit :=
  match th.cq with
  | e :: _ => if e.what == .start then (useOf e.enc).bind fun k => k.unit else none
  | [] => none

/-- The instructions of a thread commit in order, up to one that cannot yet or that asks for a unit. -/
def State.commitRun : Nat → State → Thread → State
  | 0, s, _ => s
  | k + 1, s, t =>
    if (s.thr t).headUnit.isSome then s
    else
      let r := s.commitHead t
      if r.1 then State.commitRun k r.2 t else r.2

/-! ### Requests that wait for a unit (R89, R90) -/

/-- The seven units. -/
def allUnits : List CpUnit := [.cp0, .cp1, .hash, .ec, .aes, .rng, .cp3]

/-- The threads in the order in which a unit takes their requests: round robin, the thread it served last at the end (R89). -/
def State.turns (s : State) (u : CpUnit) : List Thread :=
  (List.range 8).map fun k => s.seq.served[unitIdx u] + Fin.ofNat 8 (k + 1)

/-- The EFFECT requests to a unit, in turn (R89). -/
def State.takeEffects (s : State) (u : CpUnit) : State :=
  (s.turns u).foldl (fun s t => if (s.thr t).headUnit = some u then (s.commitHead t).2 else s) s

/-- The place of a thread's first PURE request to a unit. -/
def ThreadSt.wantPlace (th : ThreadSt) (u : CpUnit) : Option Nat := th.cq.findIdx? fun e => e.what == .want && e.asks u

/-- What stands in an entry's place in the queue from now on. -/
def ThreadSt.setWhat (th : ThreadSt) (k : Nat) (w : CqWhat) : ThreadSt :=
  { th with cq := th.cq.modify k fun e => { e with what := w } }

/-- A PURE request that its unit takes if it can: started, or found to be at fault (R90, R91). -/
def State.dispatch (s : State) (t : Thread) (k : Nat) : State :=
  match (s.thr t).cq[k]? with
  | none => s
  | some e => match cpInsnOf t e.enc with
    | none => s
    | some i => match i.start t (s.modThread t fun th => { th with rf := e.ckpt, ia := e.ia, cq := th.cq.take k }) with
      | .entry n _ (.pure op) _ =>
        n.modThread t fun _ => ((s.thr t).setWhat k (.pure op)).adopt e.id e.wds (n.thr t).rf
      | .entry n _ _ _ => n.modThread t fun _ => s.thr t
      | .except c x => s.modThread t fun th => th.setWhat k (.fault c x)
      | _ => s

/-- The PURE requests to a unit, in turn (R89). -/
def State.takePures (s : State) (u : CpUnit) : State :=
  (s.turns u).foldl (fun s t => match (s.thr t).wantPlace u with
    | some k => s.dispatch t k
    | none => s) s

/-! ### Going on -/

/-- Whether no instruction waits in a commit queue. -/
def State.queuesEmpty (s : State) : Bool := allThreads.all fun t => (s.thr t).cq.isEmpty

/-- One round: every thread commits what it can, and each unit takes the EFFECT requests to it before the PURE ones (R89). -/
def State.commitRound (s : State) : State :=
  let s := allThreads.foldl (State.commitRun 9) s
  let s := allUnits.foldl State.takeEffects s
  allUnits.foldl State.takePures s

/-- Rounds until no queue holds an instruction, at most one for each place of a queue. -/
def State.commitRounds : Nat → State → State
  | 0, s => s
  | k + 1, s => if s.queuesEmpty then s else State.commitRounds k s.commitRound

/-- What the sequencer does by itself once something has changed, while it has its clock: instructions commit, waiting requests
start, barriers and OTOK end, threads stop and wake (R59, R60, R82, R89, R104, R108; log 89). -/
def State.proceed (s : State) : State :=
  if !s.clocked then s
  else
    let s := s.commitRounds 9
    (allThreads.foldl (fun s t => (s.unblock t).checkStop t) s).wake

/-! ### The events -/

/-- BRANCH_RESOLVE: the thread's k-th unresolved branch, oldest first, once both its operands have arrived (R83). -/
def branchResolve (t : Thread) (k : Nat) (s : State) : State :=
  match (s.thr t).branches[k]? with
  | none => s
  | some b => if b.a.id != 0 || b.b.id != 0 then s else (s.resolve t b).proceed

/-- BRANCH_RESOLVE. -/
def execBranchResolve (t : Thread) (k : Nat) (s : State) : Next := .next (branchResolve t k s)

/-- RESERVOIR_LOAD_RETURN (R98, R101). -/
def execReservoirLoadReturn (l : LoadOf) (s : State) : Next := .next (s.loadReturns l.thread l.k).proceed

/-- COPROCESSOR_COMPLETE (R92). -/
def execCoprocessorComplete (u : CpUnit) (s : State) : Next := .next (s.completeOp u).proceed

/-- SHADOW_COMPLETE (R93). -/
def execShadowComplete (u : CpUnit) (s : State) : Next := .next (s.completeShadow u).proceed

/-- JOURNAL_WAIT_LIMIT (R278). -/
def execJournalWaitLimit (t : Thread) (s : State) : Next := .next (s.waitLimit t).proceed

end Sys2Proof.Machine
end

