-- ==== Sys2Proof/Machine/Gauge.lean ====
section
/-! DEFINITION. Confluence drains, the end of a protection window, and the outputs of the Gauge (R99, R109 to R112, R128, R129,
R320 to R328). -/

namespace Sys2Proof.Machine

/-! ### Confluence entries (R109 to R112, R129) -/

/-- The oldest entry of a thread and line that is not draining starts to drain. -/
def startOldest (t : Thread) (line : Nat) : List CEntry → List CEntry
  | [] => []
  | e :: r => if e.thread = t && e.line = line && !e.draining then e.start :: r else e :: startOldest t line r

/-- ENTRY_CLOSE_TIMEOUT: 64 cycles after its creation an entry closes and starts to drain (R109, R111). -/
def entryCloseTimeout (t : Thread) (line : Nat) (s : State) : State :=
  if s.clocked then { s with seq := { s.seq with conf := startOldest t line s.seq.conf } } else s

/-- The eight words of an entry written (R110). -/
def State.drainEntry (s : State) (e : CEntry) : State :=
  ((List.range 8).map (Fin.ofNat 8)).foldl (fun s i => s.drainWord e.line i e.words[i]) s

/-- DRAIN_WRITE: the thread's oldest entry of the line, if it is draining and no other thread's protection window holds it, is
written as one and frees (R110, R111, R128, R129). -/
def drainWrite (t : Thread) (line : Nat) (s : State) : State :=
  match takeFirst (fun e => e.thread = t && e.line = line) s.seq.conf with
  | none => s
  | some (e, r) =>
    if s.clocked && e.draining && !s.protHolds t line then
      let s : State := { s with seq := { s.seq with conf := r } }
      (((s.clearResvOthers t line).drainEntry e)).proceed
    else s

/-- PROTECTION_WINDOW_END: 256 cycles are over (R129). -/
def protectionWindowEnd (granule : Nat) (s : State) : State := if s.clocked then s.endProt granule else s

/-! ### The Gauge (R320 to R328) -/

/-- SETTLE of a CFG word: 3 for sinc3, 5 for sinc5, 2 for the FIR (R321). -/
def settleOf (cfg : BitVec 64) : Nat := if bitsAt cfg 3 2 = 0 then 3 else if bitsAt cfg 3 2 = 1 then 5 else 2

/-- OUTPUTS of a CFG word. -/
def outputsOf (cfg : BitVec 64) : Nat := bitsAt cfg 21 8

/-- Full scale at gain 1 in nanovolts: 40 V on GA0 to GA15, 1.25 V on GA16 to GA19 (R320). -/
def gaugeScale (c : Nat) : Nat := if c < 16 then 40 * 10 ^ 9 else 1250000000

/-- The gain 2^k of a CFG word (Table 12.9). -/
def gainOf (cfg : BitVec 64) : Nat := 2 ^ bitsAt cfg 0 3

/-- Whether an input is at or beyond full scale (R320). -/
def overRange (c : Nat) (cfg : BitVec 64) (input : Int) : Bool := decide (gaugeScale c ≤ input.natAbs * gainOf cfg)

/-- The code limited to 24 bits (R320). -/
def saturate (code : Int) : BitVec 24 := BitVec.ofInt 24 (max (-(2 ^ 23)) (min (2 ^ 23 - 1) code))

/-- The code of an input: input = C x scale / (G x 2^23) (R320). An input between two codes gives either of them (log 95). -/
def gaugeCode (c : Nat) (cfg : BitVec 64) (input : Int) (up : Bool) : BitVec 24 :=
  let n := input * (gainOf cfg * 2 ^ 23 : Nat)
  let k := n / (gaugeScale c : Int)
  saturate (if up && n % (gaugeScale c : Int) != 0 then k + 1 else k)

/-- Whether a code lies outside a channel's limits (R328). -/
def State.outside (s : State) (c : Nat) (code : BitVec 24) : Bool :=
  code.slt (BitVec.ofNat 24 (s.fld .gauge 0 (key 2 c))) || (BitVec.ofNat 24 (s.fld .gauge 0 (key 3 c))).slt code

/-- The result word's data (Table 12.5). -/
def gaugeData (code : BitVec 24) (c : Nat) (seq : BitVec 24) (settling ovr suspect alarm : Bool) : Data :=
  0#4 ++ BitVec.ofBool alarm ++ BitVec.ofBool suspect ++ BitVec.ofBool ovr ++ BitVec.ofBool settling ++ seq ++ 0#3 ++
    BitVec.ofNat 5 c ++ code

/-- An output written to the ring (R325): an overwritten output counts in GOVERRUN. -/
def State.ringWrite (s : State) (w : Word) : State :=
  let n := s.fld .gauge 0 2
  if n = 0 then s
  else
    let s := s.unitRead (s.fld .gauge 0 3 / 8)
    let full := n ≤ (s.gauge.seq - s.gaugeAck).toNat
    let s := s.unitWrite (s.fld .gauge 0 1 / 8 + s.gauge.seq.toNat % n) w
    if full then { s with gauge := { s.gauge with overrun := s.gauge.overrun + 1 } } else s

/-- The next channel of a mask after `c` in cyclic order (R322). -/
def nextChannel (m c : Nat) : Option Nat := ((List.range 20).map fun i => (c + 1 + i) % 20).find? fun k => m.testBit k

/-- A visit ended: the mask of SCANMASK takes effect, and the next channel's visit starts (R321, R322, R328). -/
def State.nextVisit (s : State) (c : Nat) : State :=
  let m := s.fld .gauge 0 0
  let v := nextChannel m c
  { s with gauge := { s.gauge with visit := v, made := 0, mask := BitVec.ofNat 20 m,
                                   cfg := BitVec.ofNat 64 (s.fld .gauge 0 (key 1 (v.getD 0))),
                                   alarms := s.gauge.alarms &&& BitVec.ofNat 20 m } }

/-- A visit broken off by Doze begins anew, with settling outputs, on its channel if that is still in the scan (R399; log 95). -/
def State.restartVisit (s : State) : State := ((s.gauge.visit.map fun c => s.nextVisit (c + 19)).getD s)

/-- Whether a visit of channel `c` ends with the output just made (R321, R322). -/
def State.visitEnds (s : State) (c : Nat) : Bool :=
  if popCount s.gauge.mask = 1 then
    s.gauge.mask.toNat != s.fld .gauge 0 0 || bitsAt s.gauge.cfg 0 21 != s.fld .gauge 0 (key 1 c) % 2 ^ 21
  else settleOf s.gauge.cfg + outputsOf s.gauge.cfg ≤ s.gauge.made

/-- GAUGE_OUTPUT: a conversion of the visited channel ends (R320 to R328). -/
def gaugeOutput (input : Int) (s : State) : State :=
  match s.gauge.visit with
  | none => s
  | some c =>
    if !s.clocked then s
    else
      let f := s.draw
      let s := f.2
      let g := s.gauge
      let ovr := overRange c g.cfg input
      let settling := decide (g.made < settleOf g.cfg)
      let suspect := !settling && g.suspect
      let valid := !settling && !suspect
      let k := gaugeCode c g.cfg input (f.1.getLsbD 0)
      let alarms := if valid then setBit g.alarms c (s.outside c k) else g.alarms
      let d := gaugeData k c g.seq settling ovr suspect (alarms.getLsbD c)
      let s := s.ringWrite (mkWord (mkTag 8 (BitVec.ofNat 2 (s.lev 7)) valid false) d)
      let s : State := { s with gauge := { s.gauge with seq := g.seq + 1, made := g.made + 1, alarms := alarms,
                                                        suspect := ovr || (g.suspect && settling),
                                                        last := g.last.set (Fin.ofNat 20 c) d } }
      (if s.visitEnds c then s.nextVisit c else s).wake

/-! ### Meanings -/

/-- ENTRY_CLOSE_TIMEOUT. -/
def execEntryCloseTimeout (t : Thread) (line : Nat) (s : State) : Host.Outcome State Fault Refusal := .next (entryCloseTimeout t line s)

/-- DRAIN_WRITE. -/
def execDrainWrite (t : Thread) (line : Nat) (s : State) : Host.Outcome State Fault Refusal := .next (drainWrite t line s)

/-- PROTECTION_WINDOW_END. -/
def execProtectionWindowEnd (granule : Nat) (s : State) : Host.Outcome State Fault Refusal := .next (protectionWindowEnd granule s)

/-- GAUGE_OUTPUT. -/
def execGaugeOutput (k : GaugeSample) (s : State) : Host.Outcome State Fault Refusal := .next (gaugeOutput k.input s)

end Sys2Proof.Machine
end

