-- ==== Sys2Proof/Machine/Power.lean ====
section
/-! DEFINITION. Resets, power modes and wake (R389, R394 to R405, R414, R416, R422, R441). -/

namespace Sys2Proof.Machine

/-! ### Reset (R395, R396, R404) -/

/-- The rows of Table 15.6. -/
inductive ResetRow
  | aon | supply | rst | command | hibernate | retain
deriving DecidableEq, Repr

/-- The bit of RESETCAUSE of a row. -/
def ResetRow.bit : ResetRow → Nat
  | .aon => 0 | .supply => 1 | .rst => 2 | .command => 3 | .hibernate => 4 | .retain => 5

/-- The bits of TAMPERRESP that are fuses: every sensor but MESH (Table 14.8). -/
def fusable : BitVec 5 := 0x17

/-- The conditions of the evaluated configuration that fail at reset already (R390, R391). -/
def Otp.leftEval (o : Otp) : BitVec 7 :=
  (if o.life = .field then 0 else 1) ||| (if o.life = .provision then 2 else 0) ||| (if o.tamperResp &&& fusable = fusable then 0 else 0x20)

/-- What PD0 holds across every reset but its own (Table 15.6). -/
def Power.kept (p : Power) (row : ResetRow) : Power :=
  { Power.initial with held := true, aonHeld := p.aonHeld, supplyLow := p.supplyLow, rstLow := p.rstLow, laneOff := p.laneOff,
                       wakeCfg := p.wakeCfg, wakeAlarm := p.wakeAlarm, lastWake := p.lastWake, refclk := p.refclk,
                       rtcFrac := p.rtcFrac, crystal := p.crystal, resetCause := BitVec.ofNat 6 (2 ^ row.bit), warm := row == .retain,
                       busy := p.busy, refusedJrnl := p.refusedJrnl }

/-- Whether PD1 powers up with a row of Table 15.6: the identity key is reconstructed then (R359, R385; log 49). -/
def ResetRow.powersPd1 : ResetRow → Bool
  | .supply | .hibernate | .retain => true
  | .aon | .rst | .command => false

/-- The security unit after a main reset: the fuses, what PD0 holds of tampering, the identity key as PD1's power leaves it, and the TAP,
which a main reset does not reach unless it loses its power (R360, R385, R404, R440; log 97). -/
def Sec.afterReset (c : Sec) (row : ResetRow) : Sec :=
  { Sec.initial with otp := c.otp, tamperRec := c.tamperRec, tamperTime := c.tamperTime, leftEval := c.otp.leftEval,
                     identity := row.powersPd1 || c.identity, tap := if row.powersPd1 then .idcode else c.tap }

/-- The main domain in reset (R404, R405): everything at its reset state but the fuses, PD0 and, on the way to a warm start, the
Reservoir's contents and the acceptance record. -/
def State.mainReset (s : State) (row : ResetRow) : State :=
  let warm := row == .retain
  { State.reset with
      part := s.part, rev := s.rev, pending := s.pending, nextId := s.nextId, free := s.free,
      res := if warm then { Reservoir.initial with data := s.res.data, tags := s.res.tags, errs := s.res.errs } else Reservoir.initial,
      loader := if warm then { Loader.initial with record := s.loader.record } else Loader.initial,
      time := { TimeSt.initial with now := s.time.now },
      sec := s.sec.afterReset row,
      power := s.power.kept row,
      lanes := Vector.replicate 2 { LanePort.initial with powered := false } }

/-- RST_LOW: RST# low for 1 us (R395, R441). -/
def rstLow (s : State) : State :=
  if s.power.aonHeld then s else ({ s with power := { s.power with rstLow := true } }).mainReset .rst

/-- SUPPLY_DROP: a supply below its threshold (R395). -/
def supplyDrop (s : State) : State :=
  if s.power.aonHeld then s else ({ s with power := { s.power with supplyLow := true } }).mainReset .supply

/-- PD0 cleared by its own reset (Table 15.6). -/
def Power.aonClear (p : Power) : Power :=
  { p with aonHeld := true, laneOff := 0, wakeCfg := 0, wakeAlarm := 0, lastWake := 0, busy := false, refusedJrnl := false, rtcFrac := 0 }

/-- AON_RESET: VDD_AON below 0.80 V (R395). -/
def aonReset (s : State) : State :=
  let s := ({ s with power := s.power.aonClear }).mainReset .aon
  { s with time := TimeSt.initial, sec := { s.sec with tamperRec := 0, tamperTime := 0 } }

/-- AON_RESET_RELEASE (R395). -/
def aonResetRelease (s : State) : State := { s with power := { s.power with aonHeld := false } }

/-- Whether a port's lane domain is powered at main reset release (R396). -/
def State.laneOn (s : State) (p : MxNo) : Bool := s.hasMx p.val && !s.power.laneOff.getLsbD p.val

/-- MAIN_RESET_RELEASE: 1 ms after the last reset condition has ended, BOOT begins with BOOTSEL sampled and the lanes powered
(R139, R395, R396). -/
def mainResetRelease (bootsel : BitVec 2) (s : State) : State :=
  if !s.power.held || s.power.aonHeld then s
  else
    let s := { s with power := { s.power with held := false, supplyLow := false, rstLow := false },
                      hcb := { s.hcb with phase := .boot, bootsel := bootsel } }
    allMx.foldl (fun s p =>
      if s.laneOn p then (s.modLn p fun q => { q with powered := true }).toStage1 p else s) s

/-- BOOT_COMPLETE: PHASE LOADER, or the check of a warm start (R404, R405, Table 15.10). -/
def bootComplete (s : State) : State :=
  if s.hcb.phase != .boot || s.power.held then s
  else if s.power.warm then s.setPhase .verifying
  else s.setPhase .loader

/-! ### Mode requests (R397 to R401) -/

/-- A refused request: BUSY and its cause (R397). -/
def State.refuseMode (s : State) (jrnl : Bool) : State :=
  { s with power := { s.power with busy := true, refusedJrnl := jrnl } }

/-- Whether the committed instructions of every thread are complete and the Confluence buffer is drained: steps 2 and 3 of R398
(log 71). -/
def State.quiet (s : State) : Bool :=
  s.seq.conf.isEmpty && !(s.seq.ops.any fun o => o.effect) && s.seq.jwaits.isEmpty && s.seq.ext.all fun x => x.performed

/-- Step 4 of R398, once the steps before it are done: each Parene port leaves its bus after the beat in progress. -/
def State.leavePorts (s : State) : State :=
  if s.power.entering.isSome && s.quiet then allPb.foldl State.leaveBus s else s

/-- Entry into a low-power mode begins (R398, R401): no thread issues, the Confluence buffer drains. -/
def State.beginEntry (s : State) (m : PMode) : State :=
  ({ s with power := { s.power with entering := some m, busy := false, refusedJrnl := false },
            seq := { s.seq with conf := s.seq.conf.map CEntry.start } }).leavePorts

/-- Whether the host can request a mode: the HCB is served, and no entry is in progress (R397, R388). -/
def State.hostServed (s : State) : Bool :=
  !s.power.held && s.hcb.phase != .boot && (s.power.mode == .run || s.power.mode == .doze)

/-! ### Entry complete -/

/-- Whether entry has done what it waits for: every port has left its bus as well (R398). -/
def State.entryDone (s : State) : Bool := s.quiet && allPb.all fun n => s.pb[n].phase == .off

/-- Both links dropped (R398 step 6). -/
def State.dropLinks (s : State) : State := allMx.foldl (fun s p => (s.dropLink p).toStage1 p) s

/-- The PHASE that Doze interrupted (Table 15.10), from what the loader holds. -/
def State.awakePhase (s : State) : Phase :=
  if s.loader.stat = 3 then .run
  else if s.loader.clearing && s.loader.stat != 1 then .failed
  else if s.loader.stat = 1 then .receiving
  else if s.loader.stat = 2 || s.power.warm then .verifying
  else .loader

/-- The code that PWRSTAT shows for a wake source. -/
def WakeSource.code : WakeSource → BitVec 4
  | .pin => 0 | .alarm => 1 | .mspi => 2 | .signal => 3

/-- Back to Run from Doze (R399): the MX ports at stage 1, the enabled Parene ports observe AS# without a reset pulse, the Gauge
begins a new visit, a group member has lost its peers' heartbeats. -/
def State.leaveDoze (s : State) : State :=
  let s : State := (({ s with power := { s.power with mode := .run } }).restartVisit).setPhase s.awakePhase
  let s := allMx.foldl (fun s p => s.toStage1 p) s
  let s := s.otherMembers.foldl (fun s m => s.modPeer m fun p => { p with alive := false, confAt := none }) s
  let s := s.settleGroup (some 0)
  (allPb.foldl (fun s n => if s.pb[n].enabled then s.releasePins n false else s) s).fillMbOut.wake

/-- A wake from the mode in force (R402): Run, a warm start or a cold start. -/
def State.wakeUp (s : State) (src : WakeSource) : State :=
  let s := { s with power := { s.power with lastWake := src.code, wakeSeen := none } }
  match s.power.mode with
  | .run => s
  | .doze => s.leaveDoze
  | .retain => s.mainReset .retain
  | .hibernate => s.mainReset .hibernate

/-- A wake source that occurs: at once in a low-power mode, after entry during one (R402). -/
def State.wakeSource (s : State) (src : WakeSource) : State :=
  if s.power.entering.isSome then { s with power := { s.power with wakeSeen := some src } }
  else if s.power.mode = .run then s
  else s.wakeUp src

/-- What a wake source seen during entry does now. -/
def State.lateWake (s : State) : State :=
  match s.power.wakeSeen with
  | some src => s.wakeUp src
  | none => s

/-- DOZE_ENTRY_COMPLETE (R398). -/
def dozeEntryComplete (s : State) : State :=
  let s := s.leavePorts
  if s.power.entering = some .doze && s.entryDone then
    let s := s.dropLinks
    (({ s with power := { s.power with mode := .doze, entering := none } }).setPhase .doze).lateWake
  else s

/-- The main domains off: what they held is gone, but the Reservoir and the acceptance record in Retain (R401, Table 15.3). -/
def State.domainsOff (s : State) (m : PMode) : State :=
  let off := s.mainReset (if m = .retain then .retain else .hibernate)
  { off with power := { off.power with mode := m, held := false, warm := false, resetCause := s.power.resetCause,
                                       wakeSeen := s.power.wakeSeen } }

/-- LOW_POWER_ENTRY_COMPLETE (R401). -/
def lowPowerEntryComplete (s : State) : State :=
  let s := s.leavePorts
  match s.power.entering with
  | some .retain => if s.entryDone then (s.dropLinks.domainsOff .retain).lateWake else s
  | some .hibernate => if s.entryDone then (s.dropLinks.domainsOff .hibernate).lateWake else s
  | _ => s

/-- RUN_REQUEST (R397). -/
def runRequest (s : State) : State :=
  if !s.hostServed then s
  else if s.power.entering.isSome then s.refuseMode false
  else if s.power.mode = .doze then ({ s with power := { s.power with busy := false, refusedJrnl := false } }).leaveDoze
  else s

/-- Whether a low-power mode can be entered from here: in Run, and not zeroised (R388, R397). -/
def State.canEnter (s : State) : Bool := s.hostServed && s.hcb.phase != .zeroised

/-- DOZE_REQUEST (R397, R398). -/
def dozeRequest (s : State) : State :=
  if !s.canEnter then s
  else if s.power.entering.isSome then s.refuseMode false
  else if s.power.mode = .doze then s
  else s.beginEntry .doze

/-- RETAIN_REQUEST: refused while any journal entry is unretired (R401). -/
def retainRequest (s : State) : State :=
  if !s.canEnter then s
  else if s.power.entering.isSome then s.refuseMode false
  else if !s.journal.entries.isEmpty then s.refuseMode true
  else s.beginEntry .retain

/-- HIBERNATE_REQUEST: never refused (R401). -/
def hibernateRequest (s : State) : State := if s.canEnter then s.beginEntry .hibernate else s

/-- LANEOFF: in force at the next main reset release (R396). -/
def setLaneOff (m : BitVec 2) (s : State) : State :=
  if s.hostServed then { s with power := { s.power with laneOff := m } } else s

/-! ### Wake sources and the reference clock -/

/-- WAKE_PIN: WAKE# low for 10 us (R402, R441). -/
def wakePin (s : State) : State := s.wakeSource .pin

/-- Whether Plant Time counts in the mode in force: in Retain and Hibernate only with a crystal (R403). -/
def State.timeRuns (s : State) : Bool := s.power.mode == .run || s.power.mode == .doze || s.power.crystal

/-- WAKE_ALARM: Plant Time has reached WAKEALARM, with WAKECFG[1] (R402, R403; log 96). -/
def wakeAlarm (s : State) : State :=
  if s.power.wakeCfg.getLsbD 1 && decide (s.power.wakeAlarm.toNat ≤ s.plant) && s.timeRuns then s.wakeSource .alarm else s

/-- WAKE_MSPI: an MSPI frame, with WAKECFG[2] (R402). -/
def wakeMspi (s : State) : State := if s.power.wakeCfg.getLsbD 2 then s.wakeSource .mspi else s

/-- WAKE_SIGNAL_DETECT: in Doze, on a lane of a powered port, with WAKECFG[3] (R402). -/
def wakeSignalDetect (l : LaneNo) (s : State) : State :=
  let doze := s.power.mode == .doze || s.power.entering == some .doze
  if s.power.wakeCfg.getLsbD 3 && doze && s.lanes[lanePort l].powered then s.wakeSource .signal else s

/-- REFCLK_LOSS: the PLLs hold their frequency (R416). -/
def refclkLoss (s : State) : State := { s with power := { s.power with refclk := false } }

/-- REFCLK_RETURN (R416). -/
def refclkReturn (s : State) : State := { s with power := { s.power with refclk := true } }

/-! ### Meanings -/

/-- RST_LOW. -/
def execRstLow (s : State) : Host.Outcome State Fault Refusal := .next (rstLow s)

/-- SUPPLY_DROP. -/
def execSupplyDrop (s : State) : Host.Outcome State Fault Refusal := .next (supplyDrop s)

/-- AON_RESET. -/
def execAonReset (s : State) : Host.Outcome State Fault Refusal := .next (aonReset s)

/-- AON_RESET_RELEASE. -/
def execAonResetRelease (s : State) : Host.Outcome State Fault Refusal := .next (aonResetRelease s)

/-- MAIN_RESET_RELEASE. -/
def execMainResetRelease (bootsel : BitVec 2) (s : State) : Host.Outcome State Fault Refusal :=
  .next (mainResetRelease bootsel s)

/-- BOOT_COMPLETE. -/
def execBootComplete (s : State) : Host.Outcome State Fault Refusal := .next (bootComplete s)

/-- DOZE_ENTRY_COMPLETE. -/
def execDozeEntryComplete (s : State) : Host.Outcome State Fault Refusal := .next (dozeEntryComplete s)

/-- LOW_POWER_ENTRY_COMPLETE. -/
def execLowPowerEntryComplete (s : State) : Host.Outcome State Fault Refusal := .next (lowPowerEntryComplete s)

/-- WAKE_PIN. -/
def execWakePin (s : State) : Host.Outcome State Fault Refusal := .next (wakePin s)

/-- WAKE_ALARM. -/
def execWakeAlarm (s : State) : Host.Outcome State Fault Refusal := .next (wakeAlarm s)

/-- WAKE_MSPI. -/
def execWakeMspi (s : State) : Host.Outcome State Fault Refusal := .next (wakeMspi s)

/-- WAKE_SIGNAL_DETECT. -/
def execWakeSignalDetect (l : LaneNo) (s : State) : Host.Outcome State Fault Refusal := .next (wakeSignalDetect l s)

/-- REFCLK_LOSS. -/
def execRefclkLoss (s : State) : Host.Outcome State Fault Refusal := .next (refclkLoss s)

/-- REFCLK_RETURN. -/
def execRefclkReturn (s : State) : Host.Outcome State Fault Refusal := .next (refclkReturn s)

end Sys2Proof.Machine
end

