-- ==== Sys2Proof/Machine/Security.lean ====
section
/-! DEFINITION. The security unit outside the keyed instructions: fuses, debug levels, JTAG, tamper and zeroisation
(R359 to R361, R384 to R391). -/

namespace Sys2Proof.Machine

/-! ### OTP commands (R360, R361, Table 14.3) -/

/-- Byte i of OTPBUF. -/
def State.otpByte (s : State) (i : Nat) : Byte := readByte s.hcb.otpBuf i

/-- The 252 bytes of the command in OTPBUF (Table 14.3). -/
def State.otpBytes (s : State) : List Byte := (List.range 252).map s.otpByte

/-- An OTP command as its bytes give it (Table 14.3). -/
structure OtpCmd where
  op : Nat
  signer : Nat
  value : Nat
  data : BitVec 384
  bytes : List Byte

/-- The command of 252 bytes, where MAGIC, SIGNER and the bytes that the table gives as 0 are right (Table 14.3). -/
def otpCmd (l : List Byte) : Option OtpCmd :=
  if leAt l 0 4 != 0x50544F47 || !zerosAt l 6 2 || 4 ≤ leAt l 5 1 then none
  else some { op := leAt l 4 1, signer := leAt l 5 1, value := leAt l 8 4, data := BitVec.ofNat 384 (beNat ((l.drop 12).take 48)),
              bytes := l }

/-- Whether a slot is programmed and not revoked. -/
def Otp.slotValid (o : Otp) (i : Fin 4) : Bool := o.keyHash[i].isSome && !o.revoked.getLsbD i.val

/-- The fuses after an operation; `none` where the table does not allow it (Tables 14.2 and 14.3). -/
def Otp.apply (o : Otp) (c : OtpCmd) : Option Otp :=
  let prov : Bool := o.life = .provision
  match c.op with
  | 1 =>
    if prov && (!(o.keyHash.any Option.isSome) || o.dbgHash.isNone) then none else some { o with life := .field }
  | 2 => if c.value < 4 then some { o with revoked := setBit o.revoked c.value true } else none
  | 3 => if o.secVerMin < c.value && c.value ≤ 64 then some { o with secVerMin := c.value } else none
  | 4 => some { o with tamperResp := o.tamperResp ||| (BitVec.ofNat 5 c.value &&& fusable) }
  | 5 => if prov then none else some { o with life := .retired, idWrap := false }
  | 6 =>
    if !prov || 4 ≤ c.value || o.keyHash[Fin.ofNat 4 c.value].isSome then none
    else some { o with keyHash := o.keyHash.set (Fin.ofNat 4 c.value) (some c.data) }
  | 7 => if !prov || o.dbgHash.isSome then none else some { o with dbgHash := some c.data }
  | _ => none

/-- Whether a command in FIELD is authorised: signed by a valid slot, for this device, and an operation of FIELD (R361). -/
def Otp.authorised (o : Otp) (c : OtpCmd) : Bool :=
  let b := sigBlock c.bytes
  o.signerOk c.signer b.1 b.2.1 && signedOk c.bytes && c.data.toNat == identityPublic.1 && decide (1 ≤ c.op) &&
    decide (c.op ≤ 5)

/-- The fuses after a command; `none` where it is refused (R361). -/
def Otp.run (o : Otp) (l : List Byte) : Option Otp :=
  match otpCmd l with
  | none => none
  | some c =>
    match o.life with
    | .provision => o.apply c
    | .field =>
      if !o.authorised c then none
      else (o.apply c).filter fun o => allMembers.any o.slotValid
    | .retired => none

/-- HCBCMD OTP (R361): busy until OTP_COMMAND_DONE. -/
def State.beginOtp (s : State) : State :=
  if s.hcb.otpStat = 1 || s.hcb.phase == .zeroised then s else { s with hcb := { s.hcb with otpStat := 1 } }

/-- The result of an OTP command shown (R361, R409). -/
def State.otpResult (s : State) (stat : BitVec 2) : State := { s with hcb := { s.hcb with otpStat := stat, otpDone := true } }

/-- The fuses changed: a destroyed identity key is usable no more, RETIRED stays at debug level 0, and conditions of the evaluated
configuration that fail are noted (R361, R384, R391). -/
def Sec.setOtp (c : Sec) (o : Otp) : Sec :=
  let c := { c with otp := o, identity := c.identity && o.idWrap, leftEval := c.leftEval ||| o.leftEval }
  if o.life = .retired then { c with dbgLevel := 0, challenge := none, dbgReq := none } else c

/-- OTP_COMMAND_DONE (R361). -/
def otpCommandDone (s : State) : State :=
  if s.hcb.otpStat != 1 || s.hcb.phase == .zeroised then s
  else match s.sec.otp.run s.otpBytes with
    | none => s.otpResult 3
    | some o => ({ s with sec := s.sec.setOtp o }).otpResult 2

/-! ### Keys erased (R385, R388) -/

/-- The link keys of a port erased. -/
def Mxt.eraseKeys (m : Mxt) : Mxt := { m with txKey := none, nextKey := none, rxKeys := Vector.replicate 4 none }

/-- Key slots, link keys, the DRBG state and the identity key register erased. -/
def State.eraseKeys (s : State) : State :=
  let s : State := { s with sec := { s.sec with slots := Vector.replicate 8 none, drbg := false, identity := false } }
  { s with mxt := s.mxt.map Mxt.eraseKeys }

/-! ### Debug (R384 to R386) -/

/-- Whether the security unit answers a debug exchange: powered, out of reset, not halted by zeroisation. -/
def State.secLive (s : State) : Bool :=
  !s.power.held && (s.power.mode == .run || s.power.mode == .doze) && s.hcb.phase != .zeroised

/-- DEBUG_CHALLENGE: 48 bytes from the random source, none within 1 s of a third consecutive refusal (R384). -/
def debugChallenge (s : State) : State :=
  if !s.secLive || s.sec.otp.life == .retired || decide (s.plant < s.sec.holdTil) then s
  else
    let d := s.seedDrbg.drawN 6
    { d.2 with sec := { d.2.sec with
        challenge := some (BitVec.ofNat 384 (d.1.foldl (fun n w => 2 ^ 64 * n + w.toNat) 0)) } }

/-- DEBUG_LEVEL_REQUEST: the challenge serves this attempt and no other (R384). -/
def debugLevelRequest (level : Byte) (k : PubKey) (r sg : Nat) (s : State) : State :=
  if !s.secLive then s
  else match s.sec.challenge with
    | none => s
    | some c => { s with sec := { s.sec with challenge := none,
                                             dbgReq := some { level := level, key := k, r := r, sg := sg, challenge := c } } }

/-- The digest that a debug signature covers (R384). -/
def DebugReq.digest (q : DebugReq) : Nat :=
  shaNat (beBytes 48 q.challenge.toNat ++ beBytes 48 identityPublic.1 ++ [q.level])

/-- Whether a debug request is granted (R384). -/
def Otp.grants (o : Otp) (q : DebugReq) : Bool :=
  (q.level == 1 || q.level == 2) && o.life != .retired &&
    o.dbgHash == some (BitVec.ofNat 384 (shaNat (beBytes 48 q.key.x.toNat ++ beBytes 48 q.key.y.toNat))) &&
    ecdsaVerify q.digest q.r q.sg q.key.x.toNat q.key.y.toNat

/-- A request refused: after three in a row the next challenge is offered 1 s later (R384; log 50). -/
def State.refuseDebug (s : State) : State :=
  let n := s.sec.refusals + 1
  { s with sec := { s.sec with refusals := n, holdTil := if 3 ≤ n then s.plant + 10 ^ 9 else s.sec.holdTil } }

/-- DEBUG_VERIFY_DONE (R384, R385, R391). -/
def debugVerifyDone (s : State) : State :=
  match s.sec.dbgReq with
  | none => s
  | some q =>
    let s : State := { s with sec := { s.sec with dbgReq := none } }
    if !s.secLive then s
    else if !s.sec.otp.grants q then s.refuseDebug
    else
      let s := if q.level = 2 then s.eraseKeys else s
      let level : BitVec 2 := if s.sec.dbgLevel.toNat < q.level.toNat then q.level.setWidth 2 else s.sec.dbgLevel
      ({ s with sec := { s.sec with dbgLevel := level, refusals := 0 } }).leftEval 1

/-- Whether the TAP is powered and shifts (Table 15.12). -/
def State.tapOn (s : State) : Bool := !s.power.aonHeld && (s.power.mode == .run || s.power.mode == .doze)

/-- Whether level 2 is in force: granted, or open in PROVISION (R384). -/
def State.levelTwo (s : State) : Bool := s.tapOn && s.debugLevel == 2

/-- IDCODE (Table 15.9). -/
def State.idcode (s : State) : Nat :=
  1 + 2 * 0x5C6 + 2 ^ 12 * (if s.part = .gx7204 then 0x7204 else 0x7202) + 2 ^ 28 * (s.rev.number - 1)

/-- The bits that a data register scan shifts out on TDO, first bit first: IDCODE from its bit 0, a 0 through BYPASS, and what the balls
give the boundary register (R440, Table 15.9; log 97). -/
def State.scanOut (s : State) : TapInst → List Bool
  | .idcode => (List.range 32).map s.idcode.testBit
  | .bypass => [false]
  | .sample | .extest => Config.boundaryBits s.free

/-- A JTAG instruction: loaded through the instruction register, and the data register it selects scanned once. -/
def State.setTap (s : State) (i : TapInst) : State :=
  if s.tapOn then { s with sec := { s.sec with tap := i, tdo := s.scanOut i }, free := s.free + 1 } else s

/-- Whether any thread runs. -/
def State.anyRunning (s : State) : Bool := allThreads.any fun t => (s.thr t).run == .running

/-! ### Tamper and zeroisation (R387 to R389) -/

/-- The bit of a sensor in TAMPERREC and TAMPERRESP, in the order of Table 14.8. -/
def tamperBit : TamperSensor → Nat
  | .vglitch => 0 | .clkmon => 1 | .therm => 2 | .mesh => 3 | .tamperBall => 4

/-- Whether a sensor's response is ZEROISE (R387, Table 14.8). -/
def Otp.zeroises (o : Otp) (x : TamperSensor) : Bool := x == .mesh || o.tamperResp.getLsbD (tamperBit x)

/-- TAMPERREC and Plant Time recorded in PD0 (R387, R388). -/
def State.recordTamper (s : State) (x : TamperSensor) : State :=
  { s with sec := { s.sec with tamperRec := setBit s.sec.tamperRec (tamperBit x) true, tamperTime := s.time.now } }

/-- A thread stopped by zeroisation (Table 14.9, step 3). -/
def ThreadSt.kill (th : ThreadSt) : ThreadSt :=
  { th with run := if th.run = .running then .halted else th.run, wait := .none, yielded := false, stopping := false, resv := none,
            cq := [] }

/-- The sequencer stopped (Table 14.9, step 3). -/
def State.killThreads (s : State) : State :=
  let s := allThreads.foldl State.squashThread s
  let s := allThreads.foldl (fun s t => s.modThread t ThreadSt.kill) s
  { s with seq := { s.seq with ops := [], jwaits := [], conf := [], ext := [], postedOut := [] } }

/-- Every engine stopped and every pin released, STOPHOLD or not (Table 14.9, step 5). -/
def State.killField (s : State) : State :=
  let s := allEng.foldl State.rifStop s
  let s : State := { s with chans := s.chans.map fun (c : RChan) => { c with ens := 0 } }
  s.disableFp.disableLp

/-- Every Parene port off its bus after the beat in progress, its enable gone (Table 14.9, step 6). -/
def State.killPb (s : State) : State :=
  allPb.foldl (fun s n => (s.modPb n fun b => { b with enabled := false, recorded := false }).leaveBus n) s

/-- Zeroisation: the steps of Table 14.9 (R388). -/
def State.zeroise (s : State) : State :=
  let s := s.eraseKeys
  let s : State := { s with sec := { s.sec with dbgLevel := 0, challenge := none, dbgReq := none } }
  let s := allMx.foldl (fun s p => (s.dropLink p).toStage1 p) s.killThreads
  let s := s.killField.killPb
  let s : State := { s with res := s.res.clear,
                            loader := { s.loader with stream := [], fifo := [], clearing := false, record := none },
                            power := { s.power with entering := none, wakeSeen := none, mode := .run } }
  s.setPhase .zeroised

/-- TAMPER_TRIP (R387 to R389, R391): with PD1 off or in reset only TAMPER# and MESH are sensed, and only PD0 and a retained
Reservoir are there to answer. -/
def tamperTrip (x : TamperSensor) (s : State) : State :=
  let z := s.sec.otp.zeroises x
  if s.power.aonHeld then s
  else if s.power.held || s.power.mode == .retain || s.power.mode == .hibernate then
    if x == .mesh || x == .tamperBall then
      let s := s.recordTamper x
      if z then { s with res := s.res.clear } else s
    else s
  else
    let s := (s.recordTamper x).leftEval 6
    if z then (if s.hcb.phase = .zeroised then s else s.zeroise)
    else { s with sec := { s.sec with tampers := s.sec.tampers + 1 } }

/-! ### Meanings -/

/-- OTP_COMMAND_DONE. -/
def execOtpCommandDone (s : State) : Host.Outcome State Fault Refusal := .next (otpCommandDone s)

/-- DEBUG_CHALLENGE. -/
def execDebugChallenge (s : State) : Host.Outcome State Fault Refusal := .next (debugChallenge s)

/-- DEBUG_LEVEL_REQUEST. -/
def execDebugLevelRequest (level : Byte) (k : PubKey) (r sg : Nat) (s : State) : Host.Outcome State Fault Refusal :=
  .next (debugLevelRequest level k r sg s)

/-- DEBUG_VERIFY_DONE. -/
def execDebugVerifyDone (s : State) : Host.Outcome State Fault Refusal := .next (debugVerifyDone s)

/-- IDCODE. -/
def execIdcode (s : State) : Host.Outcome State Fault Refusal := .next (s.setTap .idcode)

/-- BYPASS. -/
def execBypass (s : State) : Host.Outcome State Fault Refusal := .next (s.setTap .bypass)

/-- SAMPLE/PRELOAD, offered only at level 2; the TAP otherwise takes it as BYPASS (R386). -/
def execSamplePreload (s : State) : Host.Outcome State Fault Refusal :=
  .next (s.setTap (if s.levelTwo then .sample else .bypass))

/-- EXTEST, offered only at level 2 and while no thread runs; the TAP otherwise takes it as BYPASS (R386). -/
def execExtest (s : State) : Host.Outcome State Fault Refusal :=
  .next (s.setTap (if s.levelTwo && !s.anyRunning then .extest else .bypass))

/-- TAMPER_TRIP. -/
def execTamperTrip (x : TamperSensor) (s : State) : Host.Outcome State Fault Refusal := .next (tamperTrip x s)

end Sys2Proof.Machine
end

