-- ==== Sys2Proof/Machine/Hcb.lean ====
section
/-! DEFINITION. The Host Control Block: its map, its reads and writes, the mailbox, MSPI and the aperture (R406 to R409, Tables
15.8 and 15.9). -/

namespace Sys2Proof.Machine

/-! ### What the host can reach -/

/-- What a frame has on SDO; none for high impedance (Table 15.12). -/
def State.setSdo (s : State) (l : Option (List Byte)) : State := { s with hcb := { s.hcb with sdo := l } }

/-- Whether frames are served, with SDO driven while CS# is low: not in reset, BOOT, Retain and Hibernate (R406, Table 15.12). -/
def State.framed (s : State) : Bool :=
  !s.power.held && !s.power.aonHeld &&
    match s.power.mode with
    | .run => s.hcb.phase != .boot
    | .doze => true
    | _ => false

/-- A frame of MSPI with its effect: ignored where SDO stays at high impedance, and where it is a wake source (R402, R406). -/
def State.hostFrame (s : State) (f : State → State) : State :=
  let s := s.setSdo (if s.framed then some [] else none)
  if s.power.held || s.power.aonHeld then s
  else if s.power.mode != .run && s.power.wakeCfg.getLsbD 2 then s.wakeSource .mspi
  else if s.framed then f s
  else s

/-! ### Registers as they read (Table 15.9) -/

/-- The number of a phase (Table 15.10). -/
def Phase.number : Phase → Nat
  | .boot => 0 | .loader => 1 | .receiving => 2 | .verifying => 3 | .failed => 4 | .run => 5 | .zeroised => 6 | .doze => 7

/-- The number of a power mode (R397). -/
def PMode.number : PMode → Nat
  | .run => 0 | .doze => 1 | .retain => 2 | .hibernate => 3

/-- The number of a life cycle state (Table 14.13). -/
def Lifecycle.number : Lifecycle → Nat
  | .provision => 0 | .field => 1 | .retired => 2

/-- The code of a run state (Table 15.9). -/
def RunState.code : RunState → Nat
  | .notStarted => 0 | .running => 1 | .halted => 2 | .stoppedExc => 3

/-- The MX ports present, one bit each (R2). -/
def State.mxMask (s : State) : Nat := if s.part = .gx7204 then 3 else 1

/-- IDINFO (Table 15.9). -/
def State.idinfo (s : State) : Nat := 1 + 2 ^ 4 * s.rev.number + 2 ^ 8 * s.pbMask + 2 ^ 12 * s.mxMask

/-- The record of the running image (Table 15.9). -/
def State.running? (s : State) : Option Accepted := if s.loader.stat = 3 then s.loader.record else none

/-- LOADSTAT. -/
def State.loadstat (s : State) : Nat := s.loader.stat.toNat + 2 ^ 8 * s.loader.signer.toNat + 2 ^ 32 * s.loader.failures.toNat

/-- LOADSPACE. -/
def State.loadspace (s : State) : Nat := s.fifoSpace + 2 ^ 16 * ((s.loader.received + s.loader.fifo.length) % 2 ^ 32)

/-- IMAGEINFO. -/
def State.imageinfo (s : State) : Nat :=
  match s.running? with
  | some a => a.version.toNat + 2 ^ 32 * a.secver.toNat
  | none => 0

/-- Bytes `8 k` to `8 k + 7` of a list, the first in [7:0]. -/
def leWord (l : List Byte) (k : Nat) : Nat := leAt l (8 * k) 8

/-- The configuration digest (R78), byte 0 first. -/
def State.digestBytes (s : State) : List Byte :=
  match s.running? with
  | some a => beBytes 48 a.digest.toNat
  | none => []

/-- The identity public key, x then y, big-endian (Table 15.9). -/
def idPubBytes : List Byte := beBytes 48 identityPublic.1 ++ beBytes 48 identityPublic.2

/-- IDCERT as it reads at offset 0x2000: 0 beyond its bytes, and where it has not been written (Table 14.2). -/
def State.idCertByte (s : State) (i : Nat) : Byte :=
  if s.sec.otp.idCert && decide (i < Config.idCertLen) then Config.idCertByte i else 0

/-- HOSTPEND (R409). -/
def Hcb.pend (h : Hcb) : Nat :=
  (if h.mbOut.isEmpty then 0 else 1) + (if h.mbIn.length < 16 then 2 else 0) + (if h.phaseChanged then 4 else 0) +
    (if h.stopped != 0 then 8 else 0) + (if h.otpDone then 16 else 0)

/-- Whether HOSTIRQ# is low (R409, Table 15.12). -/
def State.hostIrq (s : State) : Bool :=
  s.hcb.phase == .zeroised ||
    (!s.power.held && s.hcb.phase != .boot && (s.power.mode == .run || s.power.mode == .doze) &&
      BitVec.ofNat 64 s.hcb.pend &&& s.hcb.hostMask != 0)

/-- THREADSTAT of a thread. -/
def ThreadSt.stat (th : ThreadSt) : Nat :=
  th.run.code + 2 ^ 8 * (if th.run = .stoppedExc && th.statCause = 0x0E then 0x0E else th.xcause).toNat + 2 ^ 24 * th.xia.toNat

/-- PWRCTL; LANEOFF bit 1 reads 1 on the GX7202 (R396). -/
def State.pwrctl (s : State) : Nat :=
  s.power.mode.number + 2 ^ 8 * (if s.part = .gx7202 then s.power.laneOff ||| 2 else s.power.laneOff).toNat

/-- PWRSTAT. -/
def State.pwrstat (s : State) : Nat :=
  s.power.mode.number + (if s.power.busy then 8 else 0) + (if s.power.refusedJrnl then 2 ^ 8 else 0) +
    2 ^ 12 * s.power.lastWake.toNat

/-- SECSTAT. -/
def State.secstat (s : State) : Nat :=
  (if s.sec.leftEval = 0 then 1 else 0) + 2 ^ 8 * s.sec.leftEval.toNat + 2 ^ 16 * s.sec.otp.life.number +
    2 ^ 18 * s.debugLevel.toNat + 2 ^ 24 * s.sec.tamperRec.toNat

/-- The registers up to MBDROP, by offset / 8. -/
def State.hcbLow (s : State) (r : Nat) : Nat :=
  match r with
  | 0x00 => s.idcode
  | 0x01 => s.idinfo
  | 0x02 => s.hcb.phase.number
  | 0x04 => s.loadstat
  | 0x05 => s.loadspace
  | 0x06 => s.imageinfo
  | 0x0E => s.hcb.pend
  | 0x0F => s.hcb.hostMask.toNat
  | 0x10 => s.hcb.mbIn.length + 2 ^ 8 * s.hcb.mbOut.length
  | 0x12 => (dataOf (s.hcb.mbOut.headD 0)).toNat
  | 0x13 => s.hcb.mbOutTag.toNat
  | 0x14 => s.hcb.mbDrop.toNat
  | _ => if 8 ≤ r && r < 14 then leWord s.digestBytes (r - 8) else 0

/-- The power and security registers, by offset / 8. -/
def State.hcbPower (s : State) (r : Nat) : Nat :=
  match r with
  | 0x60 => s.pwrctl
  | 0x61 => s.power.wakeCfg.toNat
  | 0x62 => s.power.wakeAlarm.toNat
  | 0x63 => s.pwrstat
  | 0x64 => s.power.resetCause.toNat
  | 0xC0 => s.secstat
  | 0xC1 => s.hcb.otpStat.toNat
  | 0xEC => if s.sec.otp.idCert then Config.idCertLen else 0
  | _ => 0

/-- The performance counters (Table 4.5), by offset / 8. -/
def State.perf (s : State) (r : Nat) : Nat :=
  let th := s.thr (Fin.ofNat 8 r)
  let u := r % 8
  if r < 0x88 then th.issued.toNat
  else if r < 0x90 then th.mispredict.toNat
  else if r < 0x98 then th.squashed.toNat
  else if u = 7 then 0
  else if r < 0xA0 then s.seq.shadow[Fin.ofNat 7 u].toNat
  else s.seq.shadowBusy[Fin.ofNat 7 u].toNat

/-- The register at an offset, a multiple of 8, without the effects of a read (Table 15.9). Other offsets and the registers that
are only written read 0. -/
def State.hcbReg (s : State) (off : Nat) : Data :=
  let r := off / 8
  BitVec.ofNat 64
    (if r < 0x20 then s.hcbLow r
     else if r < 0x28 then (s.thr (Fin.ofNat 8 r)).stat
     else if r < 0x40 then 0
     else if r < 0x48 then s.res.ce[Fin.ofNat 8 r].toNat
     else if r < 0x50 then s.res.ue[Fin.ofNat 8 r].toNat
     else if 0x80 ≤ r && r < 0xA8 then s.perf r
     else if 0xE0 ≤ r && r < 0xEC then leWord idPubBytes (r - 0xE0)
     else if 0x400 ≤ r && r < 0x500 then leWord ((List.range 8).map fun i => s.idCertByte (off - 0x2000 + i)) 0
     else s.hcbPower r)

/-! ### Reads with their effects (R406, R408, R409) -/

/-- A read that covers MBOUT: the oldest word goes, MBOUTTAG holds its tag, a waiting MBWR has room (R408). -/
def State.popMbOut (s : State) : State :=
  match s.hcb.mbOut with
  | [] => { s with hcb := { s.hcb with mbOutTag := 0 } }
  | w :: r => ({ s with hcb := { s.hcb with mbOut := r, mbOutTag := 1#1 ++ tagOf w } }).fillMbOut.wake

/-- What a read of a register does besides giving its value (R408, R409). -/
def State.hcbReadEffect (s : State) (off : Nat) : State :=
  let r := off / 8
  if r = 0x02 then { s with hcb := { s.hcb with phaseChanged := false } }
  else if r = 0x12 then s.popMbOut
  else if 0x20 ≤ r && r < 0x28 then { s with hcb := { s.hcb with stopped := setBit s.hcb.stopped (r - 0x20) false } }
  else s

/-- `n` bytes read from an offset on: each register is captured at its first byte (R406). -/
def State.hcbBytes : Nat → Nat → Option Data → State → List Byte × State
  | 0, _, _, s => ([], s)
  | n + 1, off, cap, s =>
    let off := off % 2 ^ 16
    let c := match cap with
      | some d => if off % 8 = 0 then (s.hcbReg off, s.hcbReadEffect off) else (d, s)
      | none => (s.hcbReg (off - off % 8), s.hcbReadEffect (off - off % 8))
    let t := State.hcbBytes n (off + 1) (some c.1) c.2
    (byteOf c.1 (off % 8) :: t.1, t.2)

/-- MSPI READ (R406). -/
def State.mspiRead (s : State) (off n : Nat) : State :=
  let r := State.hcbBytes n off none s
  r.2.setSdo (some r.1)

/-- The status byte (Table 15.8). -/
def State.statusByte (s : State) : Byte :=
  BitVec.ofNat 8
    ((if s.fifoSpace = 0 then 1 else 0) + (if s.hcb.mbOut.isEmpty then 0 else 2) + (if 16 ≤ s.hcb.mbIn.length then 4 else 0) +
      (if s.hostIrq then 8 else 0) + 16 * s.hcb.phase.number)

/-! ### Writes (R396, R397, R406, R408, Table 15.9) -/

/-- MBIN: the word appended, or dropped and counted (R408). -/
def State.putMbIn (s : State) (d : Data) : State :=
  if s.hcb.mbIn.length < 16 then ({ s with hcb := { s.hcb with mbIn := s.hcb.mbIn ++ [d] } }).wake
  else { s with hcb := { s.hcb with mbDrop := s.hcb.mbDrop + 1 } }

/-- HCBCMD RESET: a cold start (Table 15.6). -/
def State.commandReset (s : State) : State := s.mainReset .command

/-- HCBCMD (Table 15.9). -/
def State.hcbCommand (s : State) (d : Data) : State :=
  match (d.extractLsb' 0 8).toNat with
  | 0x01 => s.beginLoad
  | 0x02 => s.abortLoad
  | 0x10 => if d.extractLsb' 32 32 = 0x5A5AA5A5 then s.commandReset else s
  | 0x20 => s.beginOtp
  | _ => s

/-- A mode request by its MODE (R397). -/
def State.requestMode (s : State) (m : Nat) : State :=
  match m with
  | 0 => runRequest s
  | 1 => dozeRequest s
  | 2 => retainRequest s
  | _ => hibernateRequest s

/-- A register written whole (Table 15.9). -/
def State.hcbWrite (s : State) (off : Nat) (d : Data) : State :=
  let r := off / 8
  if r = 0x03 then s.hcbCommand d
  else if r = 0x0F then { s with hcb := { s.hcb with hostMask := d &&& 0x1F } }
  else if r = 0x11 then s.putMbIn d
  else if r = 0x60 then (setLaneOff (d.extractLsb' 8 2) s).requestMode (d.extractLsb' 0 2).toNat
  else if r = 0x61 then { s with power := { s.power with wakeCfg := d &&& 0xE } }
  else if r = 0x62 then { s with power := { s.power with wakeAlarm := d } }
  else if 0x100 ≤ r && r < 0x120 then
    { s with hcb := { s.hcb with otpBuf := writeBytes s.hcb.otpBuf (8 * (r - 0x100)) (bytesOf d) } }
  else if 0x200 ≤ r && r < 0x400 then s.loadBytes (bytesOf d)
  else s

/-- The offsets of the registers that a frame of `n` bytes from an offset on writes whole, but for LOADFIFO (R406). -/
def wholeRegs (off n : Nat) : List Nat :=
  let first := (off + 7) / 8 * 8
  ((List.range ((off + n - first) / 8)).map fun i => first + 8 * i).filter fun o => o < 0x1000 || 0x2000 ≤ o

/-- The bytes that a frame from an offset on writes into LOADFIFO (R411). -/
def fifoBytes (off : Nat) (l : List Byte) : List Byte :=
  (l.zipIdx.filter fun p => 0x1000 ≤ off + p.2 && off + p.2 < 0x2000).map Prod.fst

/-- A frame's registers written at CS# rise, up to a reset. -/
def State.writeRegs (s : State) (off : Nat) (l : List Byte) : List Nat → State
  | [] => s
  | o :: r => if s.power.held then s else (s.hcbWrite o (ofBytes fun i => l.getD (o - off + i) 0)).writeRegs off l r

/-- MSPI WRITE: every register written whole takes effect, a partial write is ignored, and bytes for LOADFIFO join the image (R406,
R411). -/
def State.mspiWrite (s : State) (off : Nat) (l : List Byte) : State :=
  let s := s.writeRegs off l (wholeRegs off l.length)
  let b := fifoBytes off l
  if s.power.held || b.isEmpty then s else s.loadBytes b

/-! ### The aperture (R407, R410) -/

/-- The first address of the aperture. -/
def apertureBase : Nat := 0xFFFFFFFF0000

/-- Whether a range lies in the aperture of a port that BOOTSEL enables and that has had an endpoint ID (R407). -/
def State.inAperture (s : State) (p : MxNo) (a n : Nat) : Bool :=
  apertureBase ≤ a && a + n ≤ 2 ^ 48 && s.hcb.bootsel.getLsbD p.val && s.mxt[p].epid != 0 && s.hcb.phase != .boot

/-- The offsets of the registers of a range in the aperture. -/
def apertureOffs (a n : Nat) : List Nat := (List.range (n / 8)).map fun i => a - apertureBase + 8 * i

/-- Whether the aperture serves a read or write now (R407). -/
def State.apertureServes (s : State) (p : MxNo) (wr : Bool) (a n : Nat) : Bool :=
  if s.hcb.phase != .run then true
  else
    let offs := apertureOffs a n
    if wr then s.mxt[p].encRx && offs.all fun o => o / 8 == 0x11
    else s.mxt[p].encRx || offs.all fun o => o / 8 != 0x12

/-- Whether a WRN finds too little space in the load FIFO (R410, R411). -/
def State.fifoShort (s : State) (a n : Nat) (l : List Word) : Bool :=
  s.hcb.phase == .receiving && s.loader.clearing &&
    decide (s.fifoSpace <
      (s.loader.imageBytes ((((apertureOffs a n).zip l).filter fun p => 0x1000 ≤ p.1 && p.1 < 0x2000).flatMap fun p => bytesOf (dataOf p.2))).length)

/-- Registers read in ascending order. -/
def State.hcbWords : List Nat → State → List Word × State
  | [], s => ([], s)
  | o :: r, s =>
    let t := State.hcbWords r (s.hcbReadEffect o)
    (constWord (s.hcbReg o) :: t.1, t.2)

/-- Registers written in ascending order, up to a reset. -/
def State.hcbWriteAll (s : State) : List Nat → List Word → State
  | o :: r, w :: l => if s.power.held then s else (s.hcbWrite o (dataOf w)).hcbWriteAll r l
  | _, _ => s

/-- What the aperture answers: code, hint and words, with the state after it (R407, R410). -/
def State.aperture (s : State) (p : MxNo) (kind : RqKind) (a n : Nat) (l : List Word) : State × BitVec 4 × BitVec 16 × List Word :=
  let wr := rqWrites kind
  if a % 8 != 0 || n % 8 != 0 then (s, 9, 0, [])
  else if !s.apertureServes p wr a n then (s, 3, 0, [])
  else if wr then
    if kind == .wrn && s.fifoShort a n l then (s, 1, 10, []) else (s.hcbWriteAll (apertureOffs a n) l, 0, 0, [])
  else
    let r := State.hcbWords (apertureOffs a n) s
    (r.2, 0, 0, r.1)

/-! ### Pin states (R414, Table 15.12) -/

/-- What an MX lane transmits. -/
inductive TxState
  | off | idle | training | traffic
deriving DecidableEq, Repr

/-- A lane's TX: off without power, idle in BOOT, Doze and ZEROISED, training until link up, then traffic on the lanes within the width
and no signal on the others (R130, R414). -/
def State.laneTx (s : State) (l : LaneNo) : TxState :=
  let q := s.lanes[lanePort l]
  if !q.powered || s.power.held then .off
  else if s.power.mode != .run || s.hcb.phase == .boot || s.hcb.phase == .zeroised then .idle
  else if q.stage != 7 then .training
  else if q.inWidth (laneIn l) then .traffic
  else .idle

/-- TDO while a data register is shifted; none for high impedance (R414). -/
def State.tdo (s : State) : Option (List Bool) := if s.tapOn then some s.sec.tdo else none

/-! ### Meanings -/

/-- START (R410). -/
def execStart (s : State) : Host.Outcome State Fault Refusal := .next (s.hostFrame State.beginLoad)

/-- ABORT (Table 15.11). -/
def execAbort (s : State) : Host.Outcome State Fault Refusal := .next (s.hostFrame State.abortLoad)

/-- RESET (R404, Table 15.6). -/
def execReset (s : State) : Host.Outcome State Fault Refusal := .next (s.hostFrame State.commandReset)

/-- OTP (R361). -/
def execOtp (s : State) : Host.Outcome State Fault Refusal := .next (s.hostFrame State.beginOtp)

/-- LOADFIFO (R410, R411). -/
def execLoadfifo (bytes : List Byte) (s : State) : Host.Outcome State Fault Refusal :=
  .next (s.hostFrame fun s => s.loadBytes bytes)

/-- MBIN (R408). -/
def execMbin (d : Data) (s : State) : Host.Outcome State Fault Refusal := .next (s.hostFrame fun s => s.putMbIn d)

/-- MBOUT (R408). -/
def execMbout (s : State) : Host.Outcome State Fault Refusal := .next (s.hostFrame fun s => s.mspiRead 0x90 8)

/-- PHASE (R409). -/
def execPhase (s : State) : Host.Outcome State Fault Refusal := .next (s.hostFrame fun s => s.mspiRead 0x10 8)

/-- THREADSTAT (R409). -/
def execThreadstat (t : Thread) (s : State) : Host.Outcome State Fault Refusal :=
  .next (s.hostFrame fun s => s.mspiRead (0x100 + 8 * t.val) 8)

/-- RUN_REQUEST (R397). -/
def execRunRequest (s : State) : Host.Outcome State Fault Refusal := .next (s.hostFrame runRequest)

/-- DOZE_REQUEST (R397, R398). -/
def execDozeRequest (s : State) : Host.Outcome State Fault Refusal := .next (s.hostFrame dozeRequest)

/-- RETAIN_REQUEST (R397, R401). -/
def execRetainRequest (s : State) : Host.Outcome State Fault Refusal := .next (s.hostFrame retainRequest)

/-- HIBERNATE_REQUEST (R397, R401). -/
def execHibernateRequest (s : State) : Host.Outcome State Fault Refusal := .next (s.hostFrame hibernateRequest)

/-- LANEOFF (R396). -/
def execLaneoff (m : BitVec 2) (s : State) : Host.Outcome State Fault Refusal := .next (s.hostFrame (setLaneOff m))

/-- HCB_WRITE: one WRITE frame (R406). -/
def execHcbWrite (off : BitVec 16) (l : List Byte) (s : State) : Host.Outcome State Fault Refusal :=
  .next (s.hostFrame fun s => s.mspiWrite off.toNat l)

/-- MSPI READ (R406). -/
def execMspiRead (off : BitVec 16) (n : Nat) (s : State) : Host.Outcome State Fault Refusal :=
  .next (s.hostFrame fun s => s.mspiRead off.toNat n)

/-- MSPI STATUS (R406, Table 15.8). -/
def execMspiStatus (s : State) : Host.Outcome State Fault Refusal :=
  .next (s.hostFrame fun s => s.setSdo (some [s.statusByte]))

end Sys2Proof.Machine
end

