-- ==== Sys2Proof/Machine/Mxt.lean ====
section
/-! DEFINITION. Packets received and sent on an MX port, replay, credits, segments (Chapter 7, R367, R381, R383, R407). -/

namespace Sys2Proof.Machine

/-! ### Well-formed packets (R164 to R166) -/

/-- Whether a range stays within 256 bytes (R165). -/
def inBurst (a n : Nat) : Bool := a % 256 + n ≤ 256

/-- Whether a request packet keeps Tables 7.3 to 7.5 and R165. -/
def reqOk (kind : RqKind) (k : ReqPkt) : Bool :=
  let a := k.addr.toNat
  let n := k.h.len.toNat
  let span := (spanned a n).length
  k.h.rsv == 0 && k.h.dst == 0 && n ≤ 256 &&
    (match kind with
      | .rd => 1 ≤ n && inBurst a n && k.data.isEmpty
      | .flush => n == 0 && k.data.isEmpty && !k.h.pair
      | .wrn => 1 ≤ n && inBurst a n && k.data.length == span && k.h2rsv == 0
      | .wrp => 1 ≤ n && inBurst a n && k.data.length == span
      | .int => k.data.length == 1 && !k.h.pair) &&
    (!k.h.pair || (n == 16 && a % 16 == 0))

/-- The kind of a read by its LEN: with LEN 0 it is a flush (R165). -/
def rqByLen (kind : RqKind) (k : ReqPkt) : RqKind :=
  match kind with
  | .rd => if k.h.len = 0 then .flush else .rd
  | .flush => if k.h.len = 0 then .flush else .rd
  | k => k

/-- Whether a header that carries no request keeps Table 7.4. -/
def hdrOk (h : Hdr) : Bool := h.rsv == 0 && !h.pair && decide (h.len.toNat ≤ 256)

/-- Whether an RSP keeps Tables 7.3 and 7.4 as far as it alone shows. -/
def rspOk (k : RspPkt) : Bool := hdrOk k.h && (k.code == 0 || k.data.isEmpty)

/-- Whether the header of an unsequenced packet keeps R164. -/
def bareOk (h : Hdr) : Bool := hdrOk h && h.tag == 0 && h.psn == 0

/-- Whether a GRP packet keeps Tables 7.3 and 7.4. -/
def grpOk (k : GrpPkt) : Bool := hdrOk k.h && 1 + grpWords k.body ≤ 32

/-! ### Requests received (R15, R167, R175, R180, R367, R407) -/

/-- A response of the device as target, on a port that is still in link up. -/
def State.respondTo (s : State) (p : MxNo) (h : Hdr) (code : BitVec 4) (hint : BitVec 16) (l : List Word) : State :=
  if !s.mxt[p].up then s
  else s.queuePkt p 2 (.rsp { h := plainHdr h.tag h.src h.len.toNat, code := code, offset := 0, rsv1 := 0, hint := hint, rsv2 := 0,
                              data := l })

/-- A request in the aperture (R407). -/
def State.apertureIn (s : State) (p : MxNo) (kind : RqKind) (k : ReqPkt) : State :=
  let o := s.aperture p kind k.addr.toNat k.h.len.toNat k.data
  if rqPosted kind then o.1 else o.1.respondTo p k.h o.2.1 o.2.2.1 o.2.2.2

/-- The numbers of the posted work of a requester that is still to complete on a port (R175). -/
def State.postedBefore (s : State) (p : MxNo) (src : BitVec 16) : List Nat :=
  (s.mxt[p].ins.filter fun i => i.posted && i.src = src).map InReq.id

/-- A flush, or an INT with its packet, behind the posted work of its SRC (R175). -/
def State.pushFlush (s : State) (p : MxNo) (k : ReqPkt) (int : Option ReqPkt) : State :=
  let id := s.nextId
  let f : FlushWait := { id := id, src := k.h.src, tag := k.h.tag, before := s.postedBefore p k.h.src, int := int, wrp := none }
  let s := (s.fresh 1).modMxt p fun m =>
    { m with flushes := m.flushes ++ [f],
             ins := m.ins ++ [{ src := k.h.src, tag := k.h.tag, id := id, posted := int.isSome }] }
  State.releaseFlushes p s.mxt[p].flushes.length s

/-- An INT received (R180, R367). -/
def State.intIn (s : State) (p : MxNo) (k : ReqPkt) : State :=
  let f := s.fixOrigins k.data
  match f.1.levCheck (some p) .int k.h.src f.2 with
  | .deny c => f.1.bumpLev c
  | .pass _ l => (f.1.admittedClear p l).pushFlush p k (some { k with data := l })

/-- A flush received: Levee, then the fence of the group, then R175. -/
def State.flushIn (s : State) (p : MxNo) (k : ReqPkt) : State :=
  match s.levCheck (some p) .flush k.h.src [] with
  | .deny c => (s.bumpLev c).respondTo p k.h 0xB 0 []
  | .pass _ _ => if s.group.joined && s.group.fenced then s.respondTo p k.h 4 0 [] else s.pushFlush p k none

/-- The request of a packet that arrived on an MX port. -/
def State.reqOf (s : State) (p : MxNo) (kind : RqKind) (k : ReqPkt) (id : Nat) (l : List Word) : Req :=
  { id := id, org := .mx p s.mxt[p].gen, src := k.h.src, tag := k.h.tag, kind := kind, addr := k.addr.toNat,
    len := k.h.len.toNat, pair := k.h.pair, retx := k.h.retx, odom := k.odom, gen := k.otoken.extractLsb' 8 8,
    seq := k.otoken.extractLsb' 0 8, wseq := k.wseq, words := l, trust := 0, wno := 0, win := Win.none }

/-- RD, WRN or WRP through the stages of Table 1.3. -/
def State.stagesIn (s : State) (p : MxNo) (kind : RqKind) (k : ReqPkt) (id : Nat) : State :=
  let f := s.fixOrigins k.data
  let r := f.1.reqOf p kind k id f.2
  match f.1.levCheck (some p) kind r.src f.2 with
  | .deny c => f.1.fromLevee r (.deny c)
  | .pass t l => (f.1.admittedClear p l).fromLevee r (.pass t l)

/-- A request numbered, and outstanding from now on (R167). -/
def State.enterIn (s : State) (p : MxNo) (kind : RqKind) (k : ReqPkt) : State :=
  (s.fresh 1).modMxt p fun m =>
    { m with ins := m.ins ++ [{ src := k.h.src, tag := k.h.tag, id := s.nextId, posted := rqPosted kind }] }

/-- The INTs of a SRC that still wait on a port, by their numbers (R175). -/
def State.intsHeld (s : State) (p : MxNo) (src : BitVec 16) : List Nat :=
  (s.mxt[p].flushes.filter fun f => f.int.isSome && f.src = src).map FlushWait.id

/-- A WRP behind waiting INTs of its SRC waits for them (R175). -/
def State.holdWrp (s : State) (p : MxNo) (k : ReqPkt) : State :=
  let f : FlushWait :=
    { id := s.nextId, src := k.h.src, tag := k.h.tag, before := s.intsHeld p k.h.src, int := none, wrp := some k }
  (s.enterIn p .wrp k).modMxt p fun m => { m with flushes := m.flushes ++ [f] }

/-- A WRP that waits for no INT any more goes on under the number it has (R175; log 51). -/
def State.resumeWrp (s : State) (p : MxNo) (id : Nat) (k : ReqPkt) : State :=
  if s.inAperture p k.addr.toNat k.h.len.toNat then (s.apertureIn p .wrp k).completeIn p id else s.stagesIn p .wrp k id

/-- Every WRP that waits for no INT any more goes on, in the order of arrival. -/
def State.resumeWrps (p : MxNo) : Nat → State → State
  | 0, s => s
  | n + 1, s =>
    match takeFirst (fun f => f.before.isEmpty && f.wrp.isSome) s.mxt[p].flushes with
    | none => s
    | some (f, rest) =>
      let s := s.modMxt p fun m => { m with flushes := rest }
      State.resumeWrps p n ((f.wrp.map fun k => s.resumeWrp p f.id k).getD s)

/-- The WRPs of a port that may go on do. -/
def State.resumeIn (s : State) (p : MxNo) : State := State.resumeWrps p s.mxt[p].flushes.length s

/-- Whether a request's SRC and TAG are those of one still outstanding here (R167). -/
def State.tagInUse (s : State) (p : MxNo) (k : ReqPkt) : Bool :=
  s.mxt[p].ins.any fun i => !i.posted && i.src = k.h.src && i.tag = k.h.tag

/-- A request or INT delivered in order (R15, R165 to R167, R175). -/
def State.requestIn (s : State) (p : MxNo) (kind : RqKind) (k : ReqPkt) : State :=
  let kind := rqByLen kind k
  if !reqOk kind k then s.bumpMxt p 5
  else if kind != .int && s.tagInUse p k then s.bumpMxt p 7
  else match kind with
    | .int => s.intIn p k
    | .flush => s.flushIn p k
    | _ =>
      if kind = .wrp && !(s.intsHeld p k.h.src).isEmpty then s.holdWrp p k
      else if s.inAperture p k.addr.toNat k.h.len.toNat then s.apertureIn p kind k
      else (s.enterIn p kind k).stagesIn p kind k s.nextId

/-! ### Responses received (R167 to R171, R367) -/

/-- Whether a part fits its request: within it, clear of the parts before it, with the words it spans (R168). -/
def OutReq.fits (q : OutReq) (off len code words : Nat) : Bool :=
  if q.len = 0 then off == 0 && len == 0 && words == 0 && q.parts.isEmpty
  else
    decide (1 ≤ len) && decide (off + len ≤ q.len) && (q.parts.all fun p => off + len ≤ p.off || p.off + p.len ≤ off) &&
      words == (if q.read && code == 0 then (spanned (q.addr + off) len).length else 0)

/-- A tag whose request has ended in 0x6 is not used again for 2 x CTO (R167). -/
def State.holdTag (s : State) (p : MxNo) (tag : BitVec 10) : State :=
  let til := s.plant + 2000 * s.fld .mxt p.val (key 1 0)
  s.modMxt p fun m => { m with heldTags := (m.heldTags.filter fun h => s.plant < h.2) ++ [(tag, til)] }

/-- A part given to its request, which leaves the port once it is fully answered (R167, R168). -/
def State.takePart (s : State) (p : MxNo) (q : OutReq) (x : Part) : State :=
  let q' := { q with parts := q.parts ++ [x] }
  let s := s.modMxt p fun m =>
    { m with reqs := if q'.answered then m.reqs.filter fun r => r.tag != q.tag
             else m.reqs.map fun r => if r.tag = q.tag then q' else r }
  let s := if q'.answered && q'.parts.any fun y => y.code = 6 then s.holdTag p q.tag else s
  let s := s.ownerPart q.owner x
  if q'.answered then allPb.foldl State.pushCard s else s

/-- A request ended for all that is left of it with one code (R367). -/
def State.endWith (s : State) (p : MxNo) (q : OutReq) (code : BitVec 4) : State :=
  let s := s.modMxt p fun m => { m with reqs := m.reqs.filter fun r => r.tag != q.tag }
  let s := (if q.len = 0 then [(0, 0)] else runsOf q.uncovered).foldl
    (fun s r => s.ownerPart q.owner { timeoutPart r with code := code }) s
  allPb.foldl State.pushCard s

/-- The code and hint of a response as R171 takes them. -/
def rspCode (k : RspPkt) : BitVec 4 × BitVec 16 :=
  if 0xC ≤ k.code.toNat then (5, k.hint) else if k.code = 1 && k.hint = 0 then (1, 1) else (k.code, k.hint)

/-- A response of the port's own request through Levee (R367). -/
def State.rspLevee (s : State) (p : MxNo) (q : OutReq) (k : RspPkt) : State :=
  let f := s.fixOrigins k.data
  match f.1.grant (some p) k.h.src with
  | none => (f.1.bumpLev 5).endWith p q 0xB
  | some g =>
    if !g.read then (f.1.bumpLev 6).endWith p q 0xB
    else
      let c := rspCode k
      (f.1.admittedClear p f.2).takePart p q
        { off := k.offset.toNat, len := k.h.len.toNat, code := c.1, hint := c.2, words := f.2.map (g.word p) }

/-- RSP delivered in order. -/
def State.rspIn (s : State) (p : MxNo) (k : RspPkt) : State :=
  if !rspOk k then s.bumpMxt p 5
  else if k.h.dst != s.mxt[p].epid then s.bumpMxt p 6
  else
    let s := if 0xC ≤ k.code.toNat then s.bumpMxt p 12 else s
    match s.mxt[p].reqs.find? fun q => q.tag = k.h.tag with
    | none => s.bumpMxt p 11
    | some q =>
      if !q.fits k.offset.toNat k.h.len.toNat k.code.toNat k.data.length then s.bumpMxt p 5 else s.rspLevee p q k

/-! ### Unsequenced packets (R178 to R182) -/

/-- ASSIGN (R182). -/
def State.assignIn (s : State) (p : MxNo) (h : Hdr) : State :=
  if !bareOk h then s.bumpMxt p 5
  else
    let m := s.mxt[p]
    if m.fixed || m.epid != 0 || h.dst = 0 || h.dst = 0xFFFF then s else s.modMxt p fun m => { m with epid := h.dst }

/-- TIME, which reached its ball at `rx` (R181, R356). -/
def State.timePktIn (s : State) (p : MxNo) (k : TimePkt) (rx : BitVec 64) : State :=
  if !bareOk k.h then s.bumpMxt p 5 else s.timeIn p k rx

/-- The packets of the replay buffer after the one that an LCP acknowledges. -/
def ackedTo (psn : BitVec 12) : List Unacked → Option (List Unacked)
  | [] => none
  | u :: r => if u.psn = psn then some r else ackedTo psn r

/-- The flits of the replay buffer. -/
def Mxt.replayFlits (m : Mxt) : Nat := (m.unacked.map Unacked.flits).foldl (· + ·) 0

/-- A replay of every unacknowledged packet, in a new segment (R183), or RETRAIN after REPLAYMAX of them without an advance (R178). -/
def State.replay (s : State) (p : MxNo) : State :=
  let m := s.mxt[p]
  if m.unacked.isEmpty then s
  else if s.fld .mxt p.val (key 1 2) ≤ m.replays then s.retrain p
  else
    (((s.modMxt p fun m => { m with replays := m.replays + 1 }).bumpMxt p 2).closeOpen p).sendFlits p
      (m.unacked.flatMap fun u => u.pkt.toFlits)

/-- An LCP received (R177 to R179). -/
def State.lcpIn (s : State) (p : MxNo) (k : LcpPkt) : State :=
  let s := s.modMxt p fun m =>
    let m := { m with credit := #v[k.cred0, k.cred1, k.cred2, k.cred3] }
    match ackedTo k.ackpsn m.unacked with
    | some l => { m with unacked := l, replays := 0 }
    | none => m
  if k.nak then s.replay p else s

/-! ### Sequenced packets (R173, R177, R179) -/

/-- The header of a sequenced packet, and its virtual channel. -/
def Pkt.place : Pkt → Option (Hdr × Fin 4)
  | .rq k r => some (r.h, rqVc k)
  | .rsp r => some (r.h, 2)
  | .grp k => some (k.h, 3)
  | _ => none

/-- A packet that arrived at `rx` delivered to what takes it. -/
def State.deliverPkt (s : State) (p : MxNo) (rx : BitVec 64) : Pkt → State
  | .rq kind k => s.requestIn p kind k
  | .rsp k => s.rspIn p k
  | .grp k =>
    if grpOk k then
      let f := s.fixOrigins (GrpBody.dataWords k.body)
      f.1.grpIn p { k with body := GrpBody.withWords f.2 k.body } rx
    else s.bumpMxt p 5
  | .time k => s.timePktIn p k rx
  | .lcp k => s.lcpIn p k
  | .assign h => s.assignIn p h

/-- A packet in PSN order: delivered, its buffer freed, and the credits told at once when 16 are freed (R177, R179). -/
def State.inOrder (s : State) (p : MxNo) (vc : Fin 4) (k : Pkt) (rx : BitVec 64) : State :=
  let s := s.modMxt p fun m =>
    { m with rxPsn := m.rxPsn + 1, nak := false, ackOwed := true, freed := vmod m.freed vc (· + BitVec.ofNat 12 k.flits) }
  let s := (s.resumeIn p).deliverPkt p rx k
  if s.mxt[p].up && 16 ≤ (s.mxt[p].freed[vc] - s.mxt[p].told[vc]).toNat then s.sendLcp p false else s

/-- A packet taken from the flits: delivered in PSN order, discarded as a repeat, or a gap (R177). -/
def State.takePkt (s : State) (p : MxNo) (k : Pkt) (rx : BitVec 64) : State :=
  if !s.mxt[p].up || s.mxt[p].encMismatch then s
  else match k.place with
    | none => s.deliverPkt p rx k
    | some (h, vc) =>
      let ahead := (h.psn - s.mxt[p].rxPsn).toNat
      if ahead = 0 then s.inOrder p vc k rx
      else if 2048 ≤ ahead then s.modMxt p fun m => { m with ackOwed := true }
      else if s.mxt[p].nak then s
      else s.gap p

/-- A packet received: with encryption on it waits for the seal of its segment (R184). -/
def State.receive (s : State) (p : MxNo) (k : Pkt) : State :=
  if s.mxt[p].up && s.mxt[p].encRx then s.modMxt p fun m => { m with held := m.held ++ [(k, s.time.now)] }
  else s.takePkt p k s.time.now

/-! ### Seals (R183, R184, R381, R383) -/

/-- A failed segment: discarded, counted, a NAK, and RETRAIN after 16 within 1 s (R184, R383). -/
def State.authFail (s : State) (p : MxNo) : State :=
  let recent := (s.mxt[p].authTimes.filter fun t => s.plant < t + 10 ^ 9) ++ [s.plant]
  let s := (s.modMxt p fun m => { m with held := [], authTimes := recent }).bumpMxt p 4
  if recent.length < 16 then s.gap p
  else
    let s := s.modMxt p fun m => { m with authTimes := [] }
    let s : State := { s with sec := { s.sec with authTrips := vmod s.sec.authTrips p (· + 1) } }
    (((s.gap p).raiseEvent evLink).retrain p)

/-- The key that verifies a seal, if it does (R184, R381). -/
def Mxt.sealKey (m : Mxt) (k : SealFlit) : Option LinkKey :=
  match m.rxKeys[k.epoch.toFin] with
  | none => none
  | some q =>
    let newer : Bool := match q.high with
      | some h => h.toNat < k.segno.toNat
      | none => true
    let flits := m.held.flatMap fun x => x.1.toFlits
    if k.zeros && newer && leBits (q.crypt k.segno flits).2 == k.tag.toNat then some q
    else none

/-- A verified segment: SEGNO noted, the key of epoch e + 2 erased (R381). -/
def Mxt.sealed (k : SealFlit) (q : LinkKey) (m : Mxt) : Mxt :=
  { m with held := [],
           rxKeys := (m.rxKeys.set k.epoch.toFin (some { q with high := some k.segno })).set (k.epoch + 2).toFin none }

/-- SEAL_FLIT_RECEIVE (R184, R381). -/
def sealFlitReceive (p : MxNo) (k : SealFlit) (s : State) : State :=
  let m := s.mxt[p]
  if !m.up || m.encMismatch then s
  else if !m.encRx then (s.modMxt p fun m => { m with encMismatch := true }).bumpMxt p 13
  else match m.sealKey k with
    | none => s.authFail p
    | some q => m.held.foldl (fun s x => s.takePkt p x.1 x.2) (s.modMxt p (Mxt.sealed k q))

/-- SEAL_TIMEOUT: no seal within 2 x SEALTIME (R184). -/
def sealTimeout (p : MxNo) (s : State) : State :=
  if s.mxt[p].up && s.mxt[p].encRx && !s.mxt[p].held.isEmpty then s.authFail p else s

/-! ### Transmission (R173, R174, R177, R182) -/

/-- Whether a VC1 packet has a VC0 packet queued before it (R174). -/
def Mxt.behindVc0 (m : Mxt) (vc : Fin 4) (q : QPkt) : Bool := vc = 1 && m.queues[0].any fun x => x.ord < q.ord

/-- Whether an older request of the same thread is still queued (R102). -/
def Mxt.behindOwn (m : Mxt) (q : QPkt) : Bool :=
  q.thr.isSome && m.queues.toList.any fun l => l.any fun x => x.thr == q.thr && x.ord < q.ord

/-- Whether the port's endpoint ID lets a packet go (R182). -/
def Mxt.addressed (m : Mxt) : Pkt → Bool
  | .grp _ => true
  | _ => m.epid != 0

/-- Whether the head packet of a channel can be sent now. -/
def State.sendable (s : State) (p : MxNo) (vc : Fin 4) (q : QPkt) : Bool :=
  let m := s.mxt[p]
  let n := q.pkt.flits
  s.canSend p n && m.addressed q.pkt && !m.behindVc0 vc q && !m.behindOwn q && decide (m.replayFlits + n ≤ 1024) &&
    decide (n ≤ (m.credit[vc] - m.used[vc]).toNat)

/-- A packet with the fields that the transmitter fills in: PSN, SRC, and TXTIME of a probe (R164, R177, R181, R334). -/
def State.stamp (s : State) (p : MxNo) (k : Pkt) : Pkt :=
  let m := s.mxt[p]
  match k with
  | .rq kind r => .rq kind { r with h := { r.h with psn := m.txPsn, src := m.epid } }
  | .rsp r => .rsp { r with h := { r.h with psn := m.txPsn, src := if s.group.joined then s.group.gid else m.epid } }
  | .grp g =>
    .grp { g with h := { g.h with psn := m.txPsn, src := m.epid },
                  body := match g.body with
                    | .tprobe _ a b => .tprobe s.time.now a b
                    | b => b }
  | k => k

/-- Whether a packet carries data words that leave on MXL (Table 14.10). -/
def Pkt.carries : Pkt → Bool
  | .rq _ r => !r.data.isEmpty
  | .rsp r => !r.data.isEmpty
  | .grp _ => true
  | .time _ => true
  | _ => false

/-- Data words of a packet sent on a port with transmit encryption off (R390, Table 14.10). -/
def State.leftClear (s : State) (p : MxNo) (k : Pkt) : State :=
  if k.carries && !s.mxt[p].encTx then s.leftEval (3 + p.val) else s

/-- A packet read by the MX port from where it waited (R27, R232): a word with an uncorrectable error is poisoned, and a response
that has one carries 0x8. -/
def Pkt.read (errs : Assoc MemErr) : Pkt → Pkt
  | .rq kind k => .rq kind { k with data := poisonBad errs k.data }
  | .rsp k => .rsp { k with code := if k.code = 0 && anyBad errs k.data.length then 8 else k.code, data := poisonBad errs k.data }
  | .grp k => .grp { k with body := match k.body with
      | .fwdrsp code off hint len l => .fwdrsp (if code = 0 && anyBad errs l.length then 8 else code) off hint len (poisonBad errs l)
      | b => GrpBody.withWords (poisonBad errs (GrpBody.dataWords b)) b }
  | k => k

/-- PACKET_TRANSMIT: the head packet of a channel; the place it leaves in VC0 lets waiting writes go on. -/
def packetTransmit (p : MxNo) (vc : Fin 4) (s : State) : State :=
  match s.mxt[p].queues[vc] with
  | [] => s
  | q :: rest =>
    if !s.sendable p vc q then s
    else
      let k := s.stamp p (q.pkt.read q.errs)
      let n := k.flits
      let s := s.countErrs q.errs
      let s := ((s.leftClear p k).modMxt p fun m =>
        { m with queues := m.queues.set vc rest, txPsn := m.txPsn + 1, used := vmod m.used vc (· + BitVec.ofNat 12 n),
                 unacked := m.unacked ++ [{ psn := m.txPsn, flits := n, pkt := k }] }).sendFlits p k.toFlits
      if vc = 0 then (allPb.foldl State.pushCard s).wake else s

/-- REPLAY_TIMEOUT (R178). -/
def replayTimeout (p : MxNo) (s : State) : State := if s.mxt[p].up then s.replay p else s

/-- LCP_TIMER (R179). -/
def lcpTimer (p : MxNo) (s : State) : State := s.sendLcp p false

/-- Whether a queued packet is the request of a tag. -/
def Pkt.hasTag (tag : BitVec 10) : Pkt → Bool
  | .rq k r => !rqPosted k && r.h.tag == tag
  | _ => false

/-- COMPLETION_TIMEOUT: CTO after the issue of a request (R167, R170). -/
def completionTimeout (p : MxNo) (tag : BitVec 10) (s : State) : State :=
  match s.mxt[p].reqs.find? fun q => q.tag = tag with
  | none => s
  | some q =>
    let s := (s.holdTag p tag).modMxt p fun m =>
      { m with reqs := m.reqs.filter fun r => r.tag != tag,
               queues := vmod m.queues 1 fun l => l.filter fun x => !x.pkt.hasTag tag }
    allPb.foldl State.pushCard (s.endOut q)

/-- TIME_SEND (R181, R356): the probe of a device that is not joined (R358). -/
def timeSend (p : MxNo) (s : State) : State :=
  if !s.canSend p 1 then s
  else
    let s := s.latchTime
    let m := s.mxt[p]
    let k : TimePkt := { h := { plainHdr 0 0 24 with src := m.epid }, txtime := constWord s.time.now,
                         echotx := constWord m.echoTx, echorx := constWord m.echoRx }
    ((s.leftClear p (.time k)).modMxt p fun m => { m with lastTime := some k }).sendFlits p (Pkt.time k).toFlits

/-! ### Meanings -/

/-- A packet as received on a port. -/
def State.arrive (s : State) (p : MxNo) (k : Pkt) : State := (s.receive p k).wake

/-- RD. -/
def execRd (p : MxNo) (k : ReqPkt) (s : State) : Host.Outcome State Fault Refusal := .next (s.arrive p (.rq .rd k))

/-- WRN. -/
def execWrn (p : MxNo) (k : ReqPkt) (s : State) : Host.Outcome State Fault Refusal := .next (s.arrive p (.rq .wrn k))

/-- WRP. -/
def execWrp (p : MxNo) (k : ReqPkt) (s : State) : Host.Outcome State Fault Refusal := .next (s.arrive p (.rq .wrp k))

/-- A flush: RD with LEN 0 (R165). -/
def execFlush (p : MxNo) (k : ReqPkt) (s : State) : Host.Outcome State Fault Refusal := .next (s.arrive p (.rq .flush k))

/-- RSP. -/
def execRsp (p : MxNo) (k : RspPkt) (s : State) : Host.Outcome State Fault Refusal := .next (s.arrive p (.rsp k))

/-- INT. -/
def execIntMsg (p : MxNo) (k : ReqPkt) (s : State) : Host.Outcome State Fault Refusal := .next (s.arrive p (.rq .int k))

/-- TIME. -/
def execTimePacket (p : MxNo) (k : TimePkt) (s : State) : Host.Outcome State Fault Refusal := .next (s.arrive p (.time k))

/-- LCP. -/
def execLcp (p : MxNo) (k : LcpPkt) (s : State) : Host.Outcome State Fault Refusal := .next (s.arrive p (.lcp k))

/-- ASSIGN. -/
def execAssign (p : MxNo) (h : Hdr) (s : State) : Host.Outcome State Fault Refusal := .next (s.arrive p (.assign h))

/-- SEAL_FLIT_RECEIVE. -/
def execSealFlitReceive (p : MxNo) (k : SealFlit) (s : State) : Host.Outcome State Fault Refusal :=
  .next (sealFlitReceive p k s).wake

/-- SEAL_TIMEOUT. -/
def execSealTimeout (p : MxNo) (s : State) : Host.Outcome State Fault Refusal := .next (sealTimeout p s).wake

/-- PACKET_TRANSMIT. -/
def execPacketTransmit (p : MxNo) (vc : Fin 4) (s : State) : Host.Outcome State Fault Refusal := .next (packetTransmit p vc s)

/-- REPLAY_TIMEOUT. -/
def execReplayTimeout (p : MxNo) (s : State) : Host.Outcome State Fault Refusal := .next (replayTimeout p s).wake

/-- LCP_TIMER. -/
def execLcpTimer (p : MxNo) (s : State) : Host.Outcome State Fault Refusal := .next (lcpTimer p s)

/-- COMPLETION_TIMEOUT. -/
def execCompletionTimeout (p : MxNo) (tag : BitVec 10) (s : State) : Host.Outcome State Fault Refusal :=
  .next (completionTimeout p tag s).wake

/-- TIME_SEND. -/
def execTimeSend (p : MxNo) (s : State) : Host.Outcome State Fault Refusal := .next (timeSend p s)

/-- HELLO. -/
def execHello (p : MxNo) (k : GrpPkt) (s : State) : Host.Outcome State Fault Refusal := .next (s.arrive p (.grp k))

/-- HEARTBEAT. -/
def execHeartbeat (p : MxNo) (k : GrpPkt) (s : State) : Host.Outcome State Fault Refusal := .next (s.arrive p (.grp k))

/-- PROPOSE. -/
def execPropose (p : MxNo) (k : GrpPkt) (s : State) : Host.Outcome State Fault Refusal := .next (s.arrive p (.grp k))

/-- ACK. -/
def execAck (p : MxNo) (k : GrpPkt) (s : State) : Host.Outcome State Fault Refusal := .next (s.arrive p (.grp k))

/-- COMMIT. -/
def execCommit (p : MxNo) (k : GrpPkt) (s : State) : Host.Outcome State Fault Refusal := .next (s.arrive p (.grp k))

/-- TPROBE. -/
def execTprobe (p : MxNo) (k : GrpPkt) (s : State) : Host.Outcome State Fault Refusal := .next (s.arrive p (.grp k))

/-- FWDREQ. -/
def execFwdreq (p : MxNo) (k : GrpPkt) (s : State) : Host.Outcome State Fault Refusal := .next (s.arrive p (.grp k))

/-- FWDDATA. -/
def execFwddata (p : MxNo) (k : GrpPkt) (s : State) : Host.Outcome State Fault Refusal := .next (s.arrive p (.grp k))

/-- FWDRSP. -/
def execFwdrsp (p : MxNo) (k : GrpPkt) (s : State) : Host.Outcome State Fault Refusal := .next (s.arrive p (.grp k))

/-- JREC. -/
def execJrec (p : MxNo) (k : GrpPkt) (s : State) : Host.Outcome State Fault Refusal := .next (s.arrive p (.grp k))

/-- JRECX. -/
def execJrecx (p : MxNo) (k : GrpPkt) (s : State) : Host.Outcome State Fault Refusal := .next (s.arrive p (.grp k))

/-- JOUT. -/
def execJout (p : MxNo) (k : GrpPkt) (s : State) : Host.Outcome State Fault Refusal := .next (s.arrive p (.grp k))

/-- JACK. -/
def execJack (p : MxNo) (k : GrpPkt) (s : State) : Host.Outcome State Fault Refusal := .next (s.arrive p (.grp k))

/-- LEAVE. -/
def execLeave (p : MxNo) (k : GrpPkt) (s : State) : Host.Outcome State Fault Refusal := .next (s.arrive p (.grp k))

end Sys2Proof.Machine
end

