-- ==== Sys2Proof/Machine/Dispatch.lean ====
section
/-! DEFINITION. One arm per command: a direct call of its meaning. -/

namespace Sys2Proof.Machine

/-- What a command does to everything but the queue. -/
def exec (i : Instr) (s : State) : Host.Outcome State Fault Refusal :=
  match i with
  | .add t f => Sys2Proof.Machine.execAdd t f s
  | .sub t f => Sys2Proof.Machine.execSub t f s
  | .andR t f => Sys2Proof.Machine.execAndR t f s
  | .orR t f => Sys2Proof.Machine.execOrR t f s
  | .xorR t f => Sys2Proof.Machine.execXorR t f s
  | .andn t f => Sys2Proof.Machine.execAndn t f s
  | .shl t f => Sys2Proof.Machine.execShl t f s
  | .shr t f => Sys2Proof.Machine.execShr t f s
  | .sar t f => Sys2Proof.Machine.execSar t f s
  | .rol t f => Sys2Proof.Machine.execRol t f s
  | .mul t f => Sys2Proof.Machine.execMul t f s
  | .mulhu t f => Sys2Proof.Machine.execMulhu t f s
  | .seq t f => Sys2Proof.Machine.execSeq t f s
  | .slt t f => Sys2Proof.Machine.execSlt t f s
  | .sltu t f => Sys2Proof.Machine.execSltu t f s
  | .min t f => Sys2Proof.Machine.execMin t f s
  | .max t f => Sys2Proof.Machine.execMax t f s
  | .minu t f => Sys2Proof.Machine.execMinu t f s
  | .maxu t f => Sys2Proof.Machine.execMaxu t f s
  | .mov t f => Sys2Proof.Machine.execMov t f s
  | .tagget t f => Sys2Proof.Machine.execTagget t f s
  | .tagdown t f => Sys2Proof.Machine.execTagdown t f s
  | .addi t f => Sys2Proof.Machine.execAddi t f s
  | .andi t f => Sys2Proof.Machine.execAndi t f s
  | .ori t f => Sys2Proof.Machine.execOri t f s
  | .xori t f => Sys2Proof.Machine.execXori t f s
  | .slti t f => Sys2Proof.Machine.execSlti t f s
  | .sltui t f => Sys2Proof.Machine.execSltui t f s
  | .shli t f => Sys2Proof.Machine.execShli t f s
  | .shri t f => Sys2Proof.Machine.execShri t f s
  | .sari t f => Sys2Proof.Machine.execSari t f s
  | .kset t f => Sys2Proof.Machine.execKset t f s
  | .kxor t f => Sys2Proof.Machine.execKxor t f s
  | .ldw t f => Sys2Proof.Machine.execLdw t f s
  | .ldb t f => Sys2Proof.Machine.execLdb t f s
  | .ldh t f => Sys2Proof.Machine.execLdh t f s
  | .ldq t f => Sys2Proof.Machine.execLdq t f s
  | .stw t f => Sys2Proof.Machine.execStw t f s
  | .stb t f => Sys2Proof.Machine.execStb t f s
  | .sth t f => Sys2Proof.Machine.execSth t f s
  | .stq t f => Sys2Proof.Machine.execStq t f s
  | .ldw2 t f => Sys2Proof.Machine.execLdw2 t f s
  | .stw2 t f => Sys2Proof.Machine.execStw2 t f s
  | .llw t f => Sys2Proof.Machine.execLlw t f s
  | .scw t f => Sys2Proof.Machine.execScw t f s
  | .ldx t f => Sys2Proof.Machine.execLdx t f s
  | .stx t f => Sys2Proof.Machine.execStx t f s
  | .xrdb t f => Sys2Proof.Machine.execXrdb t f s
  | .xwrb t f => Sys2Proof.Machine.execXwrb t f s
  | .beq t f pred => Sys2Proof.Machine.execBeq t f pred s
  | .bne t f pred => Sys2Proof.Machine.execBne t f pred s
  | .blt t f pred => Sys2Proof.Machine.execBlt t f pred s
  | .bge t f pred => Sys2Proof.Machine.execBge t f pred s
  | .bltu t f pred => Sys2Proof.Machine.execBltu t f pred s
  | .bgeu t f pred => Sys2Proof.Machine.execBgeu t f pred s
  | .bpoi t f pred => Sys2Proof.Machine.execBpoi t f pred s
  | .bemp t f pred => Sys2Proof.Machine.execBemp t f pred s
  | .jal t f => Sys2Proof.Machine.execJal t f s
  | .jalr t f => Sys2Proof.Machine.execJalr t f s
  | .branchResolve t k => Sys2Proof.Machine.execBranchResolve t k s
  | .reservoirLoadReturn l => Sys2Proof.Machine.execReservoirLoadReturn l s
  | .nop t f => Sys2Proof.Machine.execNop t f s
  | .halt t f => Sys2Proof.Machine.execHalt t f s
  | .yield t f => Sys2Proof.Machine.execYield t f s
  | .eret t f => Sys2Proof.Machine.execEret t f s
  | .trap t f => Sys2Proof.Machine.execTrap t f s
  | .waitev t f => Sys2Proof.Machine.execWaitev t f s
  | .tstart t f => Sys2Proof.Machine.execTstart t f s
  | .tstop t f => Sys2Proof.Machine.execTstop t f s
  | .xrd t f => Sys2Proof.Machine.execXrd t f s
  | .xwr t f => Sys2Proof.Machine.execXwr t f s
  | .time t f => Sys2Proof.Machine.execTime t f s
  | .mbrd t f => Sys2Proof.Machine.execMbrd t f s
  | .mbwr t f => Sys2Proof.Machine.execMbwr t f s
  | .fenceLl t f => Sys2Proof.Machine.execFenceLl t f s
  | .fenceLs t f => Sys2Proof.Machine.execFenceLs t f s
  | .fenceSl t f => Sys2Proof.Machine.execFenceSl t f s
  | .fenceSs t f => Sys2Proof.Machine.execFenceSs t f s
  | .fenceAll t f => Sys2Proof.Machine.execFenceAll t f s
  | .fenceIo t f => Sys2Proof.Machine.execFenceIo t f s
  | .otok t f => Sys2Proof.Machine.execOtok t f s
  | .rifstart t f => Sys2Proof.Machine.execRifstart t f s
  | .rifstop t f => Sys2Proof.Machine.execRifstop t f s
  | .rifpush t f => Sys2Proof.Machine.execRifpush t f s
  | .rifpop t f => Sys2Proof.Machine.execRifpop t f s
  | .rifstatChannel t f => Sys2Proof.Machine.execRifstatChannel t f s
  | .rifstatEngine t f => Sys2Proof.Machine.execRifstatEngine t f s
  | .rifclrChannel t f => Sys2Proof.Machine.execRifclrChannel t f s
  | .rifclrEngine t f => Sys2Proof.Machine.execRifclrEngine t f s
  | .crc32c t f => Sys2Proof.Machine.execCrc32c t f s
  | .crc16 t f => Sys2Proof.Machine.execCrc16 t f s
  | .crc8 t f => Sys2Proof.Machine.execCrc8 t f s
  | .csum16 t f => Sys2Proof.Machine.execCsum16 t f s
  | .hash384 t f => Sys2Proof.Machine.execHash384 t f s
  | .ecverify t f => Sys2Proof.Machine.execEcverify t f s
  | .gcmseal t f => Sys2Proof.Machine.execGcmseal t f s
  | .gcmopen t f => Sys2Proof.Machine.execGcmopen t f s
  | .idsignSign t f => Sys2Proof.Machine.execIdsignSign t f s
  | .idsignAgree t f => Sys2Proof.Machine.execIdsignAgree t f s
  | .randomBits t f => Sys2Proof.Machine.execRandomBits t f s
  | .randomLoadSlot t f => Sys2Proof.Machine.execRandomLoadSlot t f s
  | .randomEraseSlot t f => Sys2Proof.Machine.execRandomEraseSlot t f s
  | .jstatPort t f => Sys2Proof.Machine.execJstatPort t f s
  | .jstatAttention t f => Sys2Proof.Machine.execJstatAttention t f s
  | .jstatEntry t f => Sys2Proof.Machine.execJstatEntry t f s
  | .jsync t f => Sys2Proof.Machine.execJsync t f s
  | .jdrainClose t f => Sys2Proof.Machine.execJdrainClose t f s
  | .jdrainReopen t f => Sys2Proof.Machine.execJdrainReopen t f s
  | .jpoison t f => Sys2Proof.Machine.execJpoison t f s
  | .journalWaitLimit t => Sys2Proof.Machine.execJournalWaitLimit t s
  | .coprocessorComplete u => Sys2Proof.Machine.execCoprocessorComplete u s
  | .shadowComplete u => Sys2Proof.Machine.execShadowComplete u s
  | .win t f => Sys2Proof.Machine.execWin t f s
  | .winClose t f => Sys2Proof.Machine.execWinClose t f s
  | .route t f => Sys2Proof.Machine.execRoute t f s
  | .routeRemove t f => Sys2Proof.Machine.execRouteRemove t f s
  | .admitClass t f => Sys2Proof.Machine.execAdmitClass t f s
  | .admitUndefine t f => Sys2Proof.Machine.execAdmitUndefine t f s
  | .levrule t f => Sys2Proof.Machine.execLevrule t f s
  | .levruleRemove t f => Sys2Proof.Machine.execLevruleRemove t f s
  | .rifload t f => Sys2Proof.Machine.execRifload t f s
  | .rifchan t f => Sys2Proof.Machine.execRifchan t f s
  | .rifchanTakeEffect g => Sys2Proof.Machine.execRifchanTakeEffect g s
  | .groupjoin t f => Sys2Proof.Machine.execGroupjoin t f s
  | .groupleave t f => Sys2Proof.Machine.execGroupleave t f s
  | .portEnable t f => Sys2Proof.Machine.execPortEnable t f s
  | .portDisable t f => Sys2Proof.Machine.execPortDisable t f s
  | .laneprof t f => Sys2Proof.Machine.execLaneprof t f s
  | .linkprof t f => Sys2Proof.Machine.execLinkprof t f s
  | .portprof t f => Sys2Proof.Machine.execPortprof t f s
  | .weirprof t f => Sys2Proof.Machine.execWeirprof t f s
  | .jrnlprof t f => Sys2Proof.Machine.execJrnlprof t f s
  | .leveeprof t f => Sys2Proof.Machine.execLeveeprof t f s
  | .rifprof t f => Sys2Proof.Machine.execRifprof t f s
  | .fieldprof t f => Sys2Proof.Machine.execFieldprof t f s
  | .gaugeprof t f => Sys2Proof.Machine.execGaugeprof t f s
  | .groupprof t f => Sys2Proof.Machine.execGroupprof t f s
  | .timeprof t f => Sys2Proof.Machine.execTimeprof t f s
  | .expertOn t f => Sys2Proof.Machine.execExpertOn t f s
  | .expertOff t f => Sys2Proof.Machine.execExpertOff t f s
  | .xctl t f => Sys2Proof.Machine.execXctl t f s
  | .retrain t f => Sys2Proof.Machine.execRetrain t f s
  | .scango t f => Sys2Proof.Machine.execScango t f s
  | .fpclear t f => Sys2Proof.Machine.execFpclear t f s
  | .lpclear t f => Sys2Proof.Machine.execLpclear t f s
  | .xget t f => Sys2Proof.Machine.execXget t f s
  | .entryCloseTimeout t line => Sys2Proof.Machine.execEntryCloseTimeout t line s
  | .drainWrite t line => Sys2Proof.Machine.execDrainWrite t line s
  | .protectionWindowEnd granule => Sys2Proof.Machine.execProtectionWindowEnd granule s
  | .timerExpire t => Sys2Proof.Machine.execTimerExpire t s
  | .tfReceive l tf => Sys2Proof.Machine.execTfReceive l tf s
  | .signalDetect l => Sys2Proof.Machine.execSignalDetect l s
  | .signalLoss l => Sys2Proof.Machine.execSignalLoss l s
  | .stageTimeout l stage => Sys2Proof.Machine.execStageTimeout l stage s
  | .adaptComplete l => Sys2Proof.Machine.execAdaptComplete l s
  | .runRestartWaitEnd p => Sys2Proof.Machine.execRunRestartWaitEnd p s
  | .codewordReceive p cw => Sys2Proof.Machine.execCodewordReceive p cw s
  | .quickRelockTimeout p => Sys2Proof.Machine.execQuickRelockTimeout p s
  | .linkFlitReceive p code => Sys2Proof.Machine.execLinkFlitReceive p code s
  | .fomUpdate l num den => Sys2Proof.Machine.execFomUpdate l num den s
  | .fomwarnTimeout l => Sys2Proof.Machine.execFomwarnTimeout l s
  | .summaryScan p eyes => Sys2Proof.Machine.execSummaryScan p eyes s
  | .fullScanComplete p blocks => Sys2Proof.Machine.execFullScanComplete p blocks s
  | .rd p k => Sys2Proof.Machine.execRd p k s
  | .wrn p k => Sys2Proof.Machine.execWrn p k s
  | .wrp p k => Sys2Proof.Machine.execWrp p k s
  | .flush p k => Sys2Proof.Machine.execFlush p k s
  | .rsp p k => Sys2Proof.Machine.execRsp p k s
  | .intMsg p k => Sys2Proof.Machine.execIntMsg p k s
  | .timePacket p k => Sys2Proof.Machine.execTimePacket p k s
  | .lcp p k => Sys2Proof.Machine.execLcp p k s
  | .assign p h => Sys2Proof.Machine.execAssign p h s
  | .sealFlitReceive p k => Sys2Proof.Machine.execSealFlitReceive p k s
  | .sealTimeout p => Sys2Proof.Machine.execSealTimeout p s
  | .segmentClose p => Sys2Proof.Machine.execSegmentClose p s
  | .packetTransmit p vc => Sys2Proof.Machine.execPacketTransmit p vc s
  | .replayTimeout p => Sys2Proof.Machine.execReplayTimeout p s
  | .lcpTimer p => Sys2Proof.Machine.execLcpTimer p s
  | .completionTimeout p tag => Sys2Proof.Machine.execCompletionTimeout p tag s
  | .timeSend p => Sys2Proof.Machine.execTimeSend p s
  | .ewaFlushTimer n window => Sys2Proof.Machine.execEwaFlushTimer n window s
  | .quotaRefill => Sys2Proof.Machine.execQuotaRefill s
  | .weirServe n => Sys2Proof.Machine.execWeirServe n s
  | .holdmaxDefer n => Sys2Proof.Machine.execHoldmaxDefer n s
  | .agemaxExpire n jsn => Sys2Proof.Machine.execAgemaxExpire n jsn s
  | .entryRetire n jsn => Sys2Proof.Machine.execEntryRetire n jsn s
  | .mirrorTimeout n jsn => Sys2Proof.Machine.execMirrorTimeout n jsn s
  | .pareneCycleStart n => Sys2Proof.Machine.execPareneCycleStart n s
  | .beatResponse n r ad => Sys2Proof.Machine.execBeatResponse n r ad s
  | .responseRelease n => Sys2Proof.Machine.execResponseRelease n s
  | .busTimeout n => Sys2Proof.Machine.execBusTimeout n s
  | .retryWaitEnd n => Sys2Proof.Machine.execRetryWaitEnd n s
  | .cardAddressStrobe n ad wr => Sys2Proof.Machine.execCardAddressStrobe n ad wr s
  | .straycycGap n => Sys2Proof.Machine.execStraycycGap n s
  | .cardSecondAddress n l => Sys2Proof.Machine.execCardSecondAddress n l s
  | .cardDataStrobe n l => Sys2Proof.Machine.execCardDataStrobe n l s
  | .cardDsRise n => Sys2Proof.Machine.execCardDsRise n s
  | .tgtrtyExpire n => Sys2Proof.Machine.execTgtrtyExpire n s
  | .dlyholdExpire n => Sys2Proof.Machine.execDlyholdExpire n s
  | .deferHintEnd n => Sys2Proof.Machine.execDeferHintEnd n s
  | .busRequest r => Sys2Proof.Machine.execBusRequest r s
  | .grantNotake n => Sys2Proof.Machine.execGrantNotake n s
  | .cardTenureEnd n => Sys2Proof.Machine.execCardTenureEnd n s
  | .irqPending n level => Sys2Proof.Machine.execIrqPending n level s
  | .iackgapEnd n level => Sys2Proof.Machine.execIackgapEnd n level s
  | .sysrstLow n => Sys2Proof.Machine.execSysrstLow n s
  | .sysrstResume n => Sys2Proof.Machine.execSysrstResume n s
  | .rstpulseEnd n => Sys2Proof.Machine.execRstpulseEnd n s
  | .observationEnd n => Sys2Proof.Machine.execObservationEnd n s
  | .resetWaitEnd n => Sys2Proof.Machine.execResetWaitEnd n s
  | .br g f balls => Sys2Proof.Machine.execBr g f balls s
  | .await g f balls => Sys2Proof.Machine.execAwait g f balls s
  | .loop g f balls => Sys2Proof.Machine.execLoop g f balls s
  | .ldc g f balls => Sys2Proof.Machine.execLdc g f balls s
  | .emit g f balls => Sys2Proof.Machine.execEmit g f balls s
  | .sample g f balls => Sys2Proof.Machine.execSample g f balls s
  | .take g f balls => Sys2Proof.Machine.execTake g f balls s
  | .give g f balls => Sys2Proof.Machine.execGive g f balls s
  | .giveStamp g f balls => Sys2Proof.Machine.execGiveStamp g f balls s
  | .xfer g f balls => Sys2Proof.Machine.execXfer g f balls s
  | .driveVal g f balls => Sys2Proof.Machine.execDriveVal g f balls s
  | .driveEn g f balls => Sys2Proof.Machine.execDriveEn g f balls s
  | .sigRaise g f balls => Sys2Proof.Machine.execSigRaise g f balls s
  | .sigLower g f balls => Sys2Proof.Machine.execSigLower g f balls s
  | .pause g f balls => Sys2Proof.Machine.execPause g f balls s
  | .riffleIllegal g w => Sys2Proof.Machine.execRiffleIllegal g w s
  | .mirrorOpApply e => Sys2Proof.Machine.execMirrorOpApply e s
  | .limitOnset k => Sys2Proof.Machine.execLimitOnset k s
  | .limitEnd k => Sys2Proof.Machine.execLimitEnd k s
  | .shortFlag k => Sys2Proof.Machine.execShortFlag k s
  | .turnOff k => Sys2Proof.Machine.execTurnOff k s
  | .backoffEnd k => Sys2Proof.Machine.execBackoffEnd k s
  | .backoffReset k => Sys2Proof.Machine.execBackoffReset k s
  | .readbackSample k ball => Sys2Proof.Machine.execReadbackSample k ball s
  | .lpContention k => Sys2Proof.Machine.execLpContention k s
  | .lpRelease k => Sys2Proof.Machine.execLpRelease k s
  | .gaugeOutput k => Sys2Proof.Machine.execGaugeOutput k s
  | .hello p k => Sys2Proof.Machine.execHello p k s
  | .helloTimer => Sys2Proof.Machine.execHelloTimer s
  | .heartbeat p k => Sys2Proof.Machine.execHeartbeat p k s
  | .heartbeatTimer => Sys2Proof.Machine.execHeartbeatTimer s
  | .heartbeatTimeout m => Sys2Proof.Machine.execHeartbeatTimeout m s
  | .propose p k => Sys2Proof.Machine.execPropose p k s
  | .ack p k => Sys2Proof.Machine.execAck p k s
  | .commit p k => Sys2Proof.Machine.execCommit p k s
  | .viewTimeout => Sys2Proof.Machine.execViewTimeout s
  | .tprobe p k => Sys2Proof.Machine.execTprobe p k s
  | .tprobeTimer => Sys2Proof.Machine.execTprobeTimer s
  | .fwdreq p k => Sys2Proof.Machine.execFwdreq p k s
  | .fwddata p k => Sys2Proof.Machine.execFwddata p k s
  | .fwdrsp p k => Sys2Proof.Machine.execFwdrsp p k s
  | .forwardTimeout rid => Sys2Proof.Machine.execForwardTimeout rid s
  | .jrec p k => Sys2Proof.Machine.execJrec p k s
  | .jrecx p k => Sys2Proof.Machine.execJrecx p k s
  | .jout p k => Sys2Proof.Machine.execJout p k s
  | .jack p k => Sys2Proof.Machine.execJack p k s
  | .leave p k => Sys2Proof.Machine.execLeave p k s
  | .takeoverWaitEnd n => Sys2Proof.Machine.execTakeoverWaitEnd n s
  | .start => Sys2Proof.Machine.execStart s
  | .abort => Sys2Proof.Machine.execAbort s
  | .reset => Sys2Proof.Machine.execReset s
  | .otp => Sys2Proof.Machine.execOtp s
  | .loadfifo bytes => Sys2Proof.Machine.execLoadfifo bytes s
  | .mbin d => Sys2Proof.Machine.execMbin d s
  | .mbout => Sys2Proof.Machine.execMbout s
  | .phase => Sys2Proof.Machine.execPhase s
  | .threadstat t => Sys2Proof.Machine.execThreadstat t s
  | .runRequest => Sys2Proof.Machine.execRunRequest s
  | .dozeRequest => Sys2Proof.Machine.execDozeRequest s
  | .retainRequest => Sys2Proof.Machine.execRetainRequest s
  | .hibernateRequest => Sys2Proof.Machine.execHibernateRequest s
  | .laneoff m => Sys2Proof.Machine.execLaneoff m s
  | .hcbWrite off d => Sys2Proof.Machine.execHcbWrite off d s
  | .mspiRead off n => Sys2Proof.Machine.execMspiRead off n s
  | .mspiStatus => Sys2Proof.Machine.execMspiStatus s
  | .loadVerifyDone => Sys2Proof.Machine.execLoadVerifyDone s
  | .failedClearDone => Sys2Proof.Machine.execFailedClearDone s
  | .dozeEntryComplete => Sys2Proof.Machine.execDozeEntryComplete s
  | .lowPowerEntryComplete => Sys2Proof.Machine.execLowPowerEntryComplete s
  | .wakePin => Sys2Proof.Machine.execWakePin s
  | .wakeAlarm => Sys2Proof.Machine.execWakeAlarm s
  | .wakeMspi => Sys2Proof.Machine.execWakeMspi s
  | .wakeSignalDetect l => Sys2Proof.Machine.execWakeSignalDetect l s
  | .rstLow => Sys2Proof.Machine.execRstLow s
  | .supplyDrop => Sys2Proof.Machine.execSupplyDrop s
  | .aonReset => Sys2Proof.Machine.execAonReset s
  | .mainResetRelease bootsel => Sys2Proof.Machine.execMainResetRelease bootsel s
  | .bootComplete => Sys2Proof.Machine.execBootComplete s
  | .warmStartCheckDone => Sys2Proof.Machine.execWarmStartCheckDone s
  | .tamperTrip sensor => Sys2Proof.Machine.execTamperTrip sensor s
  | .refclkLoss => Sys2Proof.Machine.execRefclkLoss s
  | .debugChallenge => Sys2Proof.Machine.execDebugChallenge s
  | .debugLevelRequest level k r sg => Sys2Proof.Machine.execDebugLevelRequest level k r sg s
  | .debugVerifyDone => Sys2Proof.Machine.execDebugVerifyDone s
  | .idcode => Sys2Proof.Machine.execIdcode s
  | .bypass => Sys2Proof.Machine.execBypass s
  | .samplePreload => Sys2Proof.Machine.execSamplePreload s
  | .extest => Sys2Proof.Machine.execExtest s
  | .cardAsRise n => Sys2Proof.Machine.execCardAsRise n s
  | .irqRelease n level => Sys2Proof.Machine.execIrqRelease n level s
  | .sysrstRise n => Sys2Proof.Machine.execSysrstRise n s
  | .cdrLockLoss l => Sys2Proof.Machine.execCdrLockLoss l s
  | .cdrLock l => Sys2Proof.Machine.execCdrLock l s
  | .linkFlitsEnd p => Sys2Proof.Machine.execLinkFlitsEnd p s
  | .otpCommandDone => Sys2Proof.Machine.execOtpCommandDone s
  | .refclkReturn => Sys2Proof.Machine.execRefclkReturn s
  | .aonResetRelease => Sys2Proof.Machine.execAonResetRelease s
  | .reservoirClearDone => Sys2Proof.Machine.execReservoirClearDone s

end Sys2Proof.Machine
end

