-- ==== Sys2Proof/Machine/Idle.lean ====
section
/-! DEFINITION. What a step does on an empty queue: time passes (R353, R354, R403, R57, R60). -/

namespace Sys2Proof.Machine

/-- Crystal cycles of the always-on clock are 30,517 and 37/64 ns long: the fraction is kept in 1/32768 ns (R403). -/
def crystalStep (frac : Nat) : Nat × Nat := (30517 + (frac + 18944) / 32768, (frac + 18944) % 32768)

/-- One nanosecond of the reference clock: Plant Time counts, and slews by at most SLEWMAX millionths (R354, R403; log 10). -/
def TimeSt.tick (max : Nat) (t : TimeSt) : TimeSt :=
  if t.steer = 0 then { t with now := t.now + 1, slewFrac := 0 }
  else if t.slewFrac + max < 1000000 then { t with now := t.now + 1, slewFrac := t.slewFrac + max }
  else if 0 < t.steer then { t with now := t.now + 2, steer := t.steer - 1, slewFrac := t.slewFrac + max - 1000000 }
  else { t with steer := t.steer + 1, slewFrac := t.slewFrac + max - 1000000 }

/-- With an empty queue the block idles (log 10): Plant Time moves on by 1 ns of the reference clock, in Retain and Hibernate by
one crystal cycle where there is a crystal; requests held behind INTs go on where they may, the
mirrors of the Riffle channels catch up (R423; log 46), the sequencer goes on, and a thread whose TIMERCMP is reached wakes. While PD0 is in reset nothing counts. -/
def State.idle (s : State) : State :=
  if s.power.aonHeld then s
  else
    match s.power.mode with
    | .run => ((allEng.foldl State.refreshMirror (allMx.foldl State.resumeIn { s with time := s.time.tick (forced s.time.inForce 2) })).proceed).leavePorts
    | .doze => { s with time := s.time.tick (forced s.time.inForce 2) }
    | _ =>
      if !s.power.crystal then s
      else
      let c := crystalStep s.power.rtcFrac
      { s with time := { s.time with now := s.time.now + BitVec.ofNat 64 c.1 }, power := { s.power with rtcFrac := c.2 } }

end Sys2Proof.Machine
end

