-- ==== Sys2Proof/Safety.lean ====
section
/-! DEFINITION. The terms in which statements are made: when an instruction runs, what its frame is, what a good state is. -/

namespace Sys2Proof

/-- The thread whose instruction a command issues; `none` for a command that issues none. -/
def Instr.issuer : Instr → Option Thread
  | .add t _ => some t
  | .sub t _ => some t
  | .andR t _ => some t
  | .orR t _ => some t
  | .xorR t _ => some t
  | .andn t _ => some t
  | .shl t _ => some t
  | .shr t _ => some t
  | .sar t _ => some t
  | .rol t _ => some t
  | .mul t _ => some t
  | .mulhu t _ => some t
  | .seq t _ => some t
  | .slt t _ => some t
  | .sltu t _ => some t
  | .min t _ => some t
  | .max t _ => some t
  | .minu t _ => some t
  | .maxu t _ => some t
  | .mov t _ => some t
  | .tagget t _ => some t
  | .tagdown t _ => some t
  | .addi t _ => some t
  | .andi t _ => some t
  | .ori t _ => some t
  | .xori t _ => some t
  | .slti t _ => some t
  | .sltui t _ => some t
  | .shli t _ => some t
  | .shri t _ => some t
  | .sari t _ => some t
  | .kset t _ => some t
  | .kxor t _ => some t
  | .ldw t _ => some t
  | .ldb t _ => some t
  | .ldh t _ => some t
  | .ldq t _ => some t
  | .stw t _ => some t
  | .stb t _ => some t
  | .sth t _ => some t
  | .stq t _ => some t
  | .ldw2 t _ => some t
  | .stw2 t _ => some t
  | .llw t _ => some t
  | .scw t _ => some t
  | .ldx t _ => some t
  | .stx t _ => some t
  | .xrdb t _ => some t
  | .xwrb t _ => some t
  | .beq t _ _ => some t
  | .bne t _ _ => some t
  | .blt t _ _ => some t
  | .bge t _ _ => some t
  | .bltu t _ _ => some t
  | .bgeu t _ _ => some t
  | .bpoi t _ _ => some t
  | .bemp t _ _ => some t
  | .jal t _ => some t
  | .jalr t _ => some t
  | .nop t _ => some t
  | .halt t _ => some t
  | .yield t _ => some t
  | .eret t _ => some t
  | .trap t _ => some t
  | .waitev t _ => some t
  | .tstart t _ => some t
  | .tstop t _ => some t
  | .xrd t _ => some t
  | .xwr t _ => some t
  | .time t _ => some t
  | .mbrd t _ => some t
  | .mbwr t _ => some t
  | .fenceLl t _ => some t
  | .fenceLs t _ => some t
  | .fenceSl t _ => some t
  | .fenceSs t _ => some t
  | .fenceAll t _ => some t
  | .fenceIo t _ => some t
  | .otok t _ => some t
  | .rifstart t _ => some t
  | .rifstop t _ => some t
  | .rifpush t _ => some t
  | .rifpop t _ => some t
  | .rifstatChannel t _ => some t
  | .rifstatEngine t _ => some t
  | .rifclrChannel t _ => some t
  | .rifclrEngine t _ => some t
  | .crc32c t _ => some t
  | .crc16 t _ => some t
  | .crc8 t _ => some t
  | .csum16 t _ => some t
  | .hash384 t _ => some t
  | .ecverify t _ => some t
  | .gcmseal t _ => some t
  | .gcmopen t _ => some t
  | .idsignSign t _ => some t
  | .idsignAgree t _ => some t
  | .randomBits t _ => some t
  | .randomLoadSlot t _ => some t
  | .randomEraseSlot t _ => some t
  | .jstatPort t _ => some t
  | .jstatAttention t _ => some t
  | .jstatEntry t _ => some t
  | .jsync t _ => some t
  | .jdrainClose t _ => some t
  | .jdrainReopen t _ => some t
  | .jpoison t _ => some t
  | .win t _ => some t
  | .winClose t _ => some t
  | .route t _ => some t
  | .routeRemove t _ => some t
  | .admitClass t _ => some t
  | .admitUndefine t _ => some t
  | .levrule t _ => some t
  | .levruleRemove t _ => some t
  | .rifload t _ => some t
  | .rifchan t _ => some t
  | .groupjoin t _ => some t
  | .groupleave t _ => some t
  | .portEnable t _ => some t
  | .portDisable t _ => some t
  | .laneprof t _ => some t
  | .linkprof t _ => some t
  | .portprof t _ => some t
  | .weirprof t _ => some t
  | .jrnlprof t _ => some t
  | .leveeprof t _ => some t
  | .rifprof t _ => some t
  | .fieldprof t _ => some t
  | .gaugeprof t _ => some t
  | .groupprof t _ => some t
  | .timeprof t _ => some t
  | .expertOn t _ => some t
  | .expertOff t _ => some t
  | .xctl t _ => some t
  | .retrain t _ => some t
  | .scango t _ => some t
  | .fpclear t _ => some t
  | .lpclear t _ => some t
  | .xget t _ => some t
  | _ => none

end Sys2Proof

namespace Sys2Proof.Machine

/-! ### When an instruction of a thread runs -/

/-- IS selects the thread next: no ready thread stands ahead of it in the order, or the instruction is the second of a pair (R79,
R81). -/
def State.selected (s : State) (t : Thread) : Bool := s.inSlot t || (s.ahead t).isEmpty

/-- IS selects the thread, its next instruction is `enc`, fetched without error, its sources are produced, there is a place for it
and, for one that starts at commit, every older instruction has committed (R45, R50, R79 to R82). -/
def State.runs (s : State) (t : Thread) (enc : BitVec 36) (srcs : List Reg) (commit : Bool) : Bool :=
  s.selectable t && s.selected t && s.canStart t enc srcs commit

/-- ISSUE after an instruction of the thread has issued: up by 1 in a cycle of its own, as before for the second of a pair (Table
4.5, R81). -/
def State.issueCount (s : State) (t : Thread) : Counter := if s.inSlot t then (s.thr t).issued else (s.thr t).issued + 1

/-- The IA of the thread's next instruction. -/
def State.iaOf (s : State) (t : Thread) : BitVec 24 := (s.thr t).ia

/-! ### Frames -/

/-- Every data byte and every tag byte of the Reservoir reads in `n` as in `s`. -/
def SameMemory (s n : State) : Prop :=
  (∀ a, readByte n.res.data a = readByte s.res.data a) ∧ ∀ w, readByte n.res.tags w = readByte s.res.tags w

/-- Nothing differs but what thread `t` holds for itself, and the selection of IS (R79, R81). -/
def OnlyThread (t : Thread) (s n : State) : Prop :=
  { n with seq := { n.seq with threads := n.seq.threads.set t (s.thr t), lastSel := s.seq.lastSel, slot := s.seq.slot } } = s

/-- Nothing differs but threads, the coprocessors, the buffer and the other parts of the sequencer. -/
def OnlySeq (s n : State) : Prop := { n with seq := s.seq } = s

/-- The other state of a thread than its registers, its IA, its count of issued instructions and its commit queue. -/
def ThreadSt.rest (th : ThreadSt) : ThreadSt := { th with rf := RegFile.initial, ia := 0, issued := 0, cq := [] }

/-- The whole effect of an instruction of thread `t` that gives register `wd` the word `w` and goes on at `ia`: the word (W0
stays 0), no other register, no other thread, nothing else of the block, no byte of memory; a correctable error of the
instruction's own code word is corrected at its fetch (R27). -/
structure WritesReg (s n : State) (t : Thread) (wd : Reg) (w : Word) (ia : BitVec 24) : Prop where
  value : wd ≠ 0 → n.reg t wd = w ∧ (n.thr t).rf.ready wd = true
  zero : n.reg t 0 = 0
  others : ∀ r, r ≠ wd → n.reg t r = s.reg t r ∧ (n.thr t).rf.ready r = (s.thr t).rf.ready r
  goesOn : (n.thr t).ia = ia
  counted : (n.thr t).issued = s.issueCount t
  selected : n.seq.lastSel = t
  thread : (n.thr t).rest = ((s.fetchCorrect t).thr t).rest
  frame : OnlyThread t (s.fetchCorrect t) n
  memory : SameMemory s n

/-- The whole effect of an exception that an instruction of thread `t` raises (R61, R62, R64): the exception registers, and
handler mode at HANDLER, or a stopped thread; nothing else but HOSTPEND[3] and the count of issued instructions. -/
structure TakesException (s n : State) (t : Thread) (cause : BitVec 6) (info : BitVec 64) (xia : BitVec 24) : Prop where
  xia : (n.thr t).xia = xia
  xcause : (n.thr t).xcause = cause
  xinfo : (n.thr t).xinfo = info
  handled : (s.thr t).handler ≠ noHandler → (s.thr t).hmode = false →
    (n.thr t).hmode = true ∧ (n.thr t).run = .running ∧ (n.thr t).ia = (s.thr t).handler.extractLsb' 0 24
  stopped : ((s.thr t).handler = noHandler ∨ (s.thr t).hmode = true) →
    (n.thr t).run = .stoppedExc ∧ (n.thr t).statCause = (if (s.thr t).hmode then 0x0E else cause) ∧
      n.hcb.stopped.getLsbD t.val = true
  registers : ∀ r, n.reg t r = s.reg t r
  memory : SameMemory s n
  frame : OnlyThread t (s.fetchCorrect t) { n with hcb := s.hcb }

/-! ### The tables of Chapter 3 as rows -/

/-- 1 or 0 as Table 3.4 gives a comparison. -/
def oneIf (p : Prop) [Decidable p] : Data := if p then 1 else 0

/-- Table 3.4, the instructions whose tags merge: constructor, function code, and the operation on the data bits in numbers. -/
def aluRows : List ((Thread → FmtR → Instr) × BitVec 6 × (Data → Data → Data)) :=
  [(.add, 0x00, fun a b => BitVec.ofNat 64 (a.toNat + b.toNat)),
   (.sub, 0x01, fun a b => BitVec.ofInt 64 (a.toInt - b.toInt)),
   (.andR, 0x02, fun a b => a &&& b),
   (.orR, 0x03, fun a b => a ||| b),
   (.xorR, 0x04, fun a b => a ^^^ b),
   (.andn, 0x05, fun a b => a &&& ~~~b),
   (.shl, 0x06, fun a b => BitVec.ofNat 64 (a.toNat * 2 ^ (b.toNat % 64))),
   (.shr, 0x07, fun a b => BitVec.ofNat 64 (a.toNat / 2 ^ (b.toNat % 64))),
   (.sar, 0x08, fun a b => BitVec.ofInt 64 (a.toInt / 2 ^ (b.toNat % 64))),
   (.rol, 0x09, fun a b => a <<< (b.toNat % 64) ||| a >>> (64 - b.toNat % 64)),
   (.mul, 0x0A, fun a b => BitVec.ofNat 64 (a.toNat * b.toNat)),
   (.mulhu, 0x0B, fun a b => BitVec.ofNat 64 (a.toNat * b.toNat / 2 ^ 64)),
   (.seq, 0x0C, fun a b => oneIf (a = b)),
   (.slt, 0x0D, fun a b => oneIf (a.toInt < b.toInt)),
   (.sltu, 0x0E, fun a b => oneIf (a.toNat < b.toNat)),
   (.min, 0x0F, fun a b => if a.toInt ≤ b.toInt then a else b),
   (.max, 0x10, fun a b => if a.toInt ≤ b.toInt then b else a),
   (.minu, 0x11, fun a b => if a.toNat ≤ b.toNat then a else b),
   (.maxu, 0x12, fun a b => if a.toNat ≤ b.toNat then b else a)]

/-- Table 3.5, the instructions on WA and the sign-extended IMM20: constructor, opcode, the operation. -/
def immRows : List ((Thread → FmtI → Instr) × BitVec 6 × (Data → Int → Data)) :=
  [(.addi, 0x03, fun a i => BitVec.ofInt 64 (a.toInt + i)),
   (.andi, 0x04, fun a i => a &&& BitVec.ofInt 64 i),
   (.ori, 0x05, fun a i => a ||| BitVec.ofInt 64 i),
   (.xori, 0x06, fun a i => a ^^^ BitVec.ofInt 64 i),
   (.slti, 0x07, fun a i => oneIf (a.toInt < i)),
   (.sltui, 0x08, fun a i => oneIf (a.toNat < (BitVec.ofInt 64 i).toNat))]

/-- Table 3.5, the shifts by an immediate amount: constructor, opcode, the operation. -/
def shiftRows : List ((Thread → FmtI → Instr) × BitVec 6 × (Data → Nat → Data)) :=
  [(.shli, 0x09, fun a n => BitVec.ofNat 64 (a.toNat * 2 ^ n)),
   (.shri, 0x0A, fun a n => BitVec.ofNat 64 (a.toNat / 2 ^ n)),
   (.sari, 0x0B, fun a n => BitVec.ofInt 64 (a.toInt / 2 ^ n))]

/-- Table 3.5, the Reservoir loads: constructor, opcode and size. -/
def loadRows : List ((Thread → FmtI → Instr) × BitVec 6 × LdKind) :=
  [(.ldw, 0x10, .word), (.ldb, 0x11, .byte), (.ldh, 0x12, .half), (.ldq, 0x13, .quad), (.ldw2, 0x18, .pair),
   (.llw, 0x1A, .linked)]

/-- Table 3.5, the Reservoir stores: constructor, opcode and size. -/
def storeRows : List ((Thread → FmtI → Instr) × BitVec 6 × LdKind) :=
  [(.stw, 0x14, .word), (.stb, 0x15, .byte), (.sth, 0x16, .half), (.stq, 0x17, .quad), (.stw2, 0x19, .pair)]

/-- Table 3.7, the conditional branches: constructor, condition, and the test on the two words. -/
def branchRows : List ((Thread → FmtB → Bool → Instr) × BrCond × (Word → Word → Prop)) :=
  [(.beq, .eq, fun a b => dataOf a = dataOf b), (.bne, .ne, fun a b => dataOf a ≠ dataOf b),
   (.blt, .lt, fun a b => (dataOf a).toInt < (dataOf b).toInt), (.bge, .ge, fun a b => (dataOf b).toInt ≤ (dataOf a).toInt),
   (.bltu, .ltu, fun a b => (dataOf a).toNat < (dataOf b).toNat),
   (.bgeu, .geu, fun a b => (dataOf b).toNat ≤ (dataOf a).toNat),
   (.bpoi, .poi, fun a _ => tagPoison (tagOf a) = true), (.bemp, .emp, fun a _ => tagValid (tagOf a) = false)]

/-- The effective address of a load or store lies in the Reservoir, is aligned to the size and meets no executable page (R31,
R32, R51, R264). -/
def State.okAccess (s : State) (k : LdKind) (a : Data) : Bool :=
  a.toNat % k.size == 0 && decide (a.toNat < 2 ^ 26) && !s.touchesExec a.toNat k.size

/-- A register that still waits for the producer `id` (R80). -/
def RegFile.waitsFor (f : RegFile) (r : Reg) (id : Nat) : Prop := f.ready r = false ∧ f.waits[r] = id

/-- What a load of a size gives for an address, from the words that the thread reads there (Table 3.5): the bytes from the
address up, zero above, with the word's tag. -/
def LdKind.loaded (k : LdKind) (a : Nat) (w : Word) : Word :=
  match k with
  | .byte => mkWord (tagOf w) ((byteOf (dataOf w) (a % 8)).setWidth 64)
  | .half => mkWord (tagOf w) ((byteOf (dataOf w) (a % 8 + 1) ++ byteOf (dataOf w) (a % 8)).setWidth 64)
  | .quad => mkWord (tagOf w) ((byteOf (dataOf w) (a % 8 + 3) ++ byteOf (dataOf w) (a % 8 + 2) ++
      byteOf (dataOf w) (a % 8 + 1) ++ byteOf (dataOf w) (a % 8)).setWidth 64)
  | _ => w

/-! ### Coprocessor operations -/

/-- A coprocessor operation of thread `t` has been dispatched (R88 to R91): it runs in its unit with its results, the registers it
writes wait for them, and the thread goes on at IA + 1. -/
structure StartsOp (s n : State) (t : Thread) (u : CpUnit) (effect : Bool) (wds : List Reg) (results : List Word) : Prop where
  op : ∃ o, n.seq.ops = s.seq.ops ++ [o] ∧ o.id = s.nextId ∧ o.thread = t ∧ o.unit = u ∧ o.effect = effect ∧
    o.shadow = false ∧ o.results = results
  waits : ∀ k r, wds[k]? = some r → r ≠ 0 → (n.thr t).rf.waits[r] = s.nextId + k
  goesOn : (n.thr t).ia = s.iaOf t + 1

/-- No register of thread `t` outside a list, and no byte of memory, has changed. -/
def KeepsRegs (s n : State) (t : Thread) (wds : List Reg) : Prop :=
  (∀ r, r ∉ wds → n.reg t r = s.reg t r ∧ (n.thr t).rf.ready r = (s.thr t).rf.ready r) ∧ SameMemory s n

/-- Table 3.11, the CRC and checksum instructions: constructor, function code, whether IMM8 must be even, and the update of WA
with the first IMM8 bytes of WB. -/
def sumRows : List ((Thread → FmtC → Instr) × BitVec 7 × Bool × (Data → Data → Nat → Data)) :=
  [(.crc32c, 0x01, false, fun a b n => (crc32c (a.setWidth 32) (lowBytes b n)).setWidth 64),
   (.crc16, 0x02, false, fun a b n => (crc16 (a.setWidth 16) (lowBytes b n)).setWidth 64),
   (.crc8, 0x03, false, fun a b n => (crc8 (a.setWidth 8) (lowBytes b n)).setWidth 64),
   (.csum16, 0x04, true, fun a b n =>
     (csum16 (a.setWidth 16) ((List.range (n / 2)).map fun i => b.extractLsb' (16 * i) 16)).setWidth 64)]

/-! ### Riffle channels -/

/-- What a turn of a channel works on (R288, R293, R298): PC, counters, frames, queues, pin values and enables. -/
def RChan.work (c : RChan) :
    (BitVec 7 × BitVec 16 × BitVec 16) × (BitVec 64 × Nat × BitVec 64 × Nat) × (List Word × List Word) × BitVec 32 × BitVec 32 :=
  ((c.pc, c.c0, c.c1), (c.tf, c.tp, c.rf, c.rp), (c.txq, c.rxq), c.vals, c.ens)

/-- The state after a turn of channel `g` (R284): the channel's work is that of `c`, its engine's flags are `flags`, and no
other channel's work, no other engine's flags and nothing of the Reservoir has changed. -/
def TurnsTo (s n : State) (g : ChanNo) (c : RChan) (flags : BitVec 8) : Prop :=
  n.chans[g].work = c.work ∧ (∀ h, h ≠ g → n.chans[h].work = s.chans[h].work) ∧ n.engines[engOf g].flags = flags ∧
    (∀ e, e ≠ engOf g → n.engines[e].flags = s.engines[e].flags) ∧ n.res = s.res

/-! ### Set-up instructions -/

/-- A set-up instruction of thread `t` runs, and no operand register's tag stops it (R64, R67, R371). -/
def State.setsUp (s : State) (t : Thread) (op : BitVec 6) (f : FmtS) (regs : List Reg) : Prop :=
  s.runs t (encS op f) regs true = true ∧ ∀ r ∈ regs, s.badOperand t r = false

/-- Thread `t` has gone on at IA + 1, counted once, with its registers as they were, and no byte of memory has changed. -/
structure GoesOn (s n : State) (t : Thread) : Prop where
  ia : (n.thr t).ia = s.iaOf t + 1
  counted : (n.thr t).issued = s.issueCount t
  selected : n.seq.lastSel = t
  keeps : KeepsRegs s n t []

/-- The set-up instructions with two operand registers: constructor, opcode, and the ABSENT_UNIT that precedes the test of the
operands' tags (R64, R449). -/
def setupRows : List ((Thread → FmtS → Instr) × BitVec 6 × (State → Data → Data → Option (BitVec 6 × Data))) :=
  [(.win, 0x3B, fun s _ b => s.winAbsent b), (.route, 0x3C, fun s a _ => s.routeAbsent a),
   (.admitClass, 0x3D, fun s a _ => s.admitAbsent a), (.levrule, 0x3E, fun s a _ => s.levruleAbsent a),
   (.rifload, 0x34, fun _ _ _ => none), (.rifchan, 0x35, fun _ _ _ => none)]

/-! The operand fields of each set-up instruction as its table lays them out, each with the condition under which the instruction
refuses it, in the order of R448: the operand register and the low bit that XINFO names. -/

/-- The first row of a list of conditions that holds is the one that names `r` and `low` (R448). -/
def FirstAtFault (l : List (Prop × Reg × Nat)) (r : Reg) (low : Nat) : Prop :=
  ∃ before p after, l = before ++ (p, r, low) :: after ∧ p ∧ ∀ x ∈ before, ¬ x.1

/-- Two ranges of numbers, each a first and a length, have one in common. -/
def RangesMeet (x y : Nat × Nat) : Prop := x.1 < y.1 + y.2 ∧ y.1 < x.1 + x.2

/-- Table 3.13, R68, R218: the fields of a defining WIN. -/
def State.winRows (s : State) (f : FmtS) (a b : Data) : List (Prop × Reg × Nat) :=
  let base := bitsAt a 0 48
  let pbase := bitsAt b 0 24
  let size := bitsAt b 32 5
  let width := bitsAt b 40 2
  let dir := bitsAt b 52 2
  let extent := 2 ^ (if width = 1 then size + 1 else size + 3)
  let sized := size ≤ 24 ∧ (width = 1 → 2 ≤ size)
  let others := fun (w : Nat × Win) => w ∈ s.windows ∧ w.1 ≠ bitsAt b 24 8
  [(sized ∧ width ≠ 3 ∧ (base % extent ≠ 0 ∨ 2 ^ 48 < base + extent ∨
      (dir = 1 ∧ ∃ w, others w ∧ w.2.dir = .inbound ∧ RangesMeet (base, extent) (w.2.base, w.2.extent))), f.wa, 0),
   (bitsAt a 48 16 ≠ 0, f.wa, 48),
   (sized ∧ (pbase % 2 ^ size ≠ 0 ∨ (b.getLsbD 39 = true ∧ 0x10000 < pbase + 2 ^ size) ∨
      (width ≠ 3 ∧ dir ≠ 3 ∧ ∃ w, others w ∧ (dir = 2 ∨ w.2.dir = .outbound) ∧ w.2.port.val = bitsAt b 37 2 ∧
        w.2.io = b.getLsbD 39 ∧ RangesMeet (pbase, 2 ^ size) (w.2.pbase, 2 ^ w.2.size))), f.wb, 0),
   (¬ sized, f.wb, 32), (width = 3 ∨ (b.getLsbD 50 = true ∧ width ≠ 1), f.wb, 40), (bitsAt b 42 2 = 3, f.wb, 42),
   (bitsAt b 47 2 = 3, f.wb, 47), (b.getLsbD 49 = true ∧ dir = 2, f.wb, 49), (b.getLsbD 50 = true ∧ dir = 2, f.wb, 50),
   (b.getLsbD 51 = true ∧ dir = 1, f.wb, 51), (dir = 3, f.wb, 52)]

/-- Table 3.14, R237, R240: the fields of a ROUTE. -/
def State.routeRows (s : State) (f : FmtS) (a b : Data) : List (Prop × Reg × Nat) :=
  let place := 16 * bitsAt a 3 2 + 2 * bitsAt a 0 3
  let dir := bitsAt a 5 1
  [(bitsAt a 0 3 = 0 ∨ (a.getLsbD 15 = true ∧ (aget (place + (1 - dir)) s.routes).isSome = true), f.wa, 0),
   (a.getLsbD 16 = true ∧ dir = 1, f.wa, 5),
   ((dir = 1 ∧ (b.toNat % 8 ≠ 0 ∨ ∃ r ∈ s.routes, r.1 ≠ place + dir ∧ r.1 % 2 = 1 ∧ r.2.addr = b.extractLsb' 0 48)) ∨
      (a.getLsbD 16 = true ∧ dir = 0 ∧
        (b.toNat % 8 ≠ 0 ∨ 2 ^ 26 ≤ bitsAt b 0 48 ∨ s.pageExec (bitsAt b 0 26 / 4096) = true)), f.wb, 0)]

/-- Table 3.15, R253: the fields of a defining ADMIT. -/
def admitRows (f : FmtS) (a b : Data) : List (Prop × Reg × Nat) :=
  [(2 ≤ bitsAt a 5 2, f.wa, 5), (bitsAt b 16 8 = 0, f.wb, 0), (bitsAt b 24 16 = 0, f.wb, 24)]

/-- Table 14.5, R364: the fields of a defining LEVRULE. -/
def levruleRows (f : FmtS) (a b : Data) : List (Prop × Reg × Nat) :=
  [(bitsAt a 6 2 = 0, f.wa, 6), (bitsAt b 16 16 < bitsAt b 0 16, f.wb, 0)]

/-- The text over R69: the fields of a RIFLOAD, its source words apart. -/
def rifloadRows (f : FmtS) (a b : Data) : List (Prop × Reg × Nat) :=
  [(128 < bitsAt a 2 7 + bitsAt a 9 8, f.wa, 2), (bitsAt a 9 8 = 0, f.wa, 9), (bitsAt a 17 47 ≠ 0, f.wa, 17),
   (b.toNat % 8 ≠ 0 ∨ 2 ^ 26 < b.toNat + 8 * bitsAt a 9 8, f.wb, 0)]

/-- Table 11.7, R307: the fields of a RIFCHAN of channel `g`. -/
def State.rifchanRows (s : State) (f : FmtS) (g : ChanNo) (a b : Data) : List (Prop × Reg × Nat) :=
  [(bitsAt a 6 58 ≠ 0, f.wa, 6), (32 < bitsAt b 13 6, f.wb, 13), (32 < bitsAt b 24 6, f.wb, 24), (8 < bitsAt b 35 4, f.wb, 35),
   (bitsAt b 46 2 = 3 ∨ (bitsAt b 46 2 ≠ s.chans[g].latest.join.toNat ∧
      ¬ (s.chans[g].txq = [] ∧ s.txLevel g = 0 ∧ s.chans[g].rxq = [])), f.wb, 46)]

/-- R70, R332 and the text over R70: the fields of a GROUPJOIN. -/
def State.joinRows (s : State) (f : FmtS) (a b : Data) : List (Prop × Reg × Nat) :=
  [(s.group.joined = true ∨ bitsAt a 2 2 < bitsAt a 0 2, f.wa, 0), (bitsAt a 2 2 = 0, f.wa, 2), (bitsAt a 8 56 ≠ 0, f.wa, 8),
   (bitsAt b 0 48 % 256 ≠ 0, f.wb, 0), (bitsAt b 48 16 = 0 ∨ bitsAt b 48 16 = 0xFFFF, f.wb, 48)]

/-- Table 3.12, Table 3.16: the profile instructions with their subsystem. -/
def profileRows : List ((Thread → FmtS → Instr) × Sub) :=
  [(.laneprof, .lane), (.linkprof, .mxt), (.portprof, .parene), (.weirprof, .weir), (.jrnlprof, .oxbow), (.leveeprof, .levee),
   (.rifprof, .riffle), (.fieldprof, .field), (.gaugeprof, .gauge), (.groupprof, .group), (.timeprof, .time)]

/-! ### Packets -/

/-- An MX port takes a packet of the next PSN in clear: it is in link up, no receive encryption and no mismatch holds it back
(R177, R184), and no held WRP of R175 goes on with it. -/
def State.takesPsn (s : State) (p : MxNo) (psn : BitVec 12) : Bool :=
  s.mxt[p].up && !s.mxt[p].encRx && !s.mxt[p].encMismatch && psn == s.mxt[p].rxPsn &&
    s.mxt[p].flushes.all fun f => f.wrp.isNone || !f.before.isEmpty

/-- An unsequenced packet is taken in clear (R173, R184). -/
def State.takesBare (s : State) (p : MxNo) : Bool := s.mxt[p].up && !s.mxt[p].encRx && !s.mxt[p].encMismatch

/-- What the delivery of a packet of virtual channel `vc` in PSN order does to its port (R177, R179): the next PSN is expected, no
NAK is open, and its flits have been freed. -/
def Delivered (s n : State) (p : MxNo) (vc : Fin 4) (flits : Nat) : Prop :=
  n.mxt[p].rxPsn = s.mxt[p].rxPsn + 1 ∧ n.mxt[p].nak = false ∧
    n.mxt[p].freed[vc] = s.mxt[p].freed[vc] + BitVec.ofNat 12 flits

/-- Whether a group peer forwarded a request (R346). -/
def Req.fromPeer (r : Req) : Bool :=
  match r.org with
  | .peer _ => true
  | _ => false

/-- A request that Levee, its window, the group and checks 2 to 7 of Table 10.2 pass, without a journal (Table 1.3, Table 10.2): its
window `w`, its class `c`, and its cost in the bucket. -/
def State.servable (s : State) (r : Req) (w : Win) (c : Fin 8) (k : WeirClass) : Prop :=
  s.stage4 w.port r.fromPeer = .pass ∧ r.win = w ∧ (rqWrites r.kind = true → w.writable r.addr r.len = true) ∧ w.jrnl = false ∧
    r.pair = false ∧ s.pb[w.port].enabled = true ∧ s.classOf r = some (c, k) ∧ k.deny = false ∧
    s.cost r ≤ k.depth.toNat ∧ 1000 * s.cost r ≤ k.avail

/-- A request stands last in its port's list of requests to be served (Table 10.2, check 9), and its class has paid for it. -/
def WaitsServed (s n : State) (r : Req) (c : Fin 8) (k : WeirClass) : Prop :=
  n.pb[r.win.port].waiting = s.pb[r.win.port].waiting ++
      [{ req := r, cls := c, prio := k.prio, hintCap := k.hintCap, took := 1000 * s.cost r, lines := 0, reserved := false,
         arrived := s.plant }] ∧
    n.pb[r.win.port].classes[c] = some (k.fill (k.avail - 1000 * s.cost r)) ∧
    (∀ g, g ≠ r.win.port → n.pb[g] = s.pb[g])

/-! ### Bridge groups -/

/-- A joined member takes a GRP packet that it is sent, the next one of its port (R173, R177, R337). -/
def State.takesGrp (s : State) (p : MxNo) (k : GrpPkt) : Bool :=
  s.takesPsn p k.h.psn && grpOk k && s.group.joined && !k.dup && k.dest == s.group.index && k.sender.toNat ≤ s.group.n1.toNat

/-- The body of a GRP packet with its data words as R22 leaves them. -/
def fixedBody (k : GrpPkt) : GrpBody := GrpBody.withWords ((GrpBody.dataWords k.body).map fixOrigin) k.body

/-- One GRP packet with a body has been queued for a member on a port. -/
def SendsGrp (s n : State) (p : MxNo) (dst : BitVec 2) (b : GrpBody) : Prop :=
  ∃ o q, n.mxt[p].queues[(3 : Fin 4)] = s.mxt[p].queues[(3 : Fin 4)] ++ [o] ∧ o.pkt = .grp q ∧ q.sender = s.group.index ∧
    q.dest = dst ∧ q.body = b

/-- Among what is queued on a port is a GRP packet for a member with such a body. -/
def HoldsGrp (n : State) (p : MxNo) (dst : BitVec 2) (b : GrpBody → Prop) : Prop :=
  ∃ o ∈ n.mxt[p].queues[(3 : Fin 4)], ∃ q, o.pkt = .grp q ∧ q.dest = dst ∧ b q.body

/-! ### Ports and answers -/

/-- Port `g` becomes `b`, and nothing else of the block changes. -/
def PortBecomes (s n : State) (g : PbNo) (b : Pb) : Prop :=
  n.pb[g] = b ∧ (∀ h, h ≠ g → n.pb[h] = s.pb[h]) ∧ { n with pb := s.pb } = s

/-- The same, but for waiting threads, which an event may have woken (R60). -/
def PortBecomesAwake (s n : State) (g : PbNo) (b : Pb) : Prop :=
  n.pb[g] = b ∧ (∀ h, h ≠ g → n.pb[h] = s.pb[h]) ∧ { n with pb := s.pb, seq := s.seq } = s

/-- The response of a request goes out on port `p`: it came there as non-posted since the last link drop, and no flush waits. -/
def State.answersOn (s : State) (r : Req) (p : MxNo) : Prop :=
  r.org = .mx p s.mxt[p].gen ∧ rqPosted r.kind = false ∧ s.mxt[p].up = true ∧ s.mxt[p].flushes = []

/-- ORIGINFIX has counted the words of a packet whose ORIGIN was reserved (R22). -/
def CountsFixes (s n : State) (l : List Word) : Prop :=
  count 12 n.sec.cnt = count 12 s.sec.cnt + BitVec.ofNat 48 (l.filter reservedOrigin).length

/-- One response with a code has been queued for a request (R168). -/
def Answered (s n : State) (p : MxNo) (r : Req) (code : BitVec 4) : Prop :=
  ∃ o q, n.mxt[p].queues[(2 : Fin 4)] = s.mxt[p].queues[(2 : Fin 4)] ++ [o] ∧ o.pkt = .rsp q ∧ q.h.tag = r.tag ∧
    q.h.dst = r.src ∧ q.code = code

/-- The port drives a beat of its head job's block in a cycle that goes on (R191, R194). -/
def State.atBeat (s : State) (g : PbNo) (c : MCycle) (j : Job) (k : Block) (rest : List Job) (more : List Block) : Prop :=
  s.pb[g].cyc = some c ∧ c.what = .job ∧ c.release = false ∧ s.pb[g].pins.dsLow = true ∧ s.pb[g].releasing = false ∧
    s.pb[g].disabling = false ∧ s.pb[g].jobs = j :: rest ∧ j.blocks = k :: more ∧ j.verify = false

/-- The head job is a WRN without a record, still to be answered on port `p` (R55, R118). -/
def State.openWrite (s : State) (j : Job) (p : MxNo) : Prop :=
  j.req.kind = .wrn ∧ j.jsn = none ∧ j.answered = false ∧ s.answersOn j.req p

/-! ### Start-up -/

/-- The HCB serves a frame of MSPI in Run (R402, R406). -/
def State.hostServes (s : State) : Bool :=
  !s.power.held && !s.power.aonHeld && s.power.mode == .run && s.hcb.phase != .boot

/-- The main domain is held in a cold start's reset, with a cause in RESETCAUSE (R404, Table 15.6): Reservoir, threads, set-up,
windows, routes, rules, order domains, keys, journal and group as at reset; the fuses, Plant Time and the queue stay. -/
structure ColdStart (s n : State) (cause : BitVec 6) : Prop where
  held : n.power.held = true
  cause : n.power.resetCause = cause
  phase : n.hcb.phase = .boot
  reservoir : n.res = Reservoir.initial
  threads : ∀ t, n.thr t = ThreadSt.initial
  setup : n.subs = initialSubs
  maps : n.windows = [] ∧ n.routes = [] ∧ n.rules = [] ∧ n.orders = []
  keys : (∀ i : Fin 8, n.sec.slots[i] = none) ∧ n.sec.dbgLevel = 0
  mailboxes : n.hcb.mbIn = [] ∧ n.hcb.mbOut = []
  ports : ∀ g : PbNo, n.pb[g] = Pb.initial
  journal : n.journal.entries = []
  group : n.group.joined = false
  fuses : n.sec.otp = s.sec.otp
  time : n.time.now = s.time.now
  kept : n.pending = s.pending ∧ n.part = s.part ∧ n.rev = s.rev

/-- A load has failed with a code (R413, Table 15.11). -/
def LoadFails (s n : State) (code : Byte) : Prop :=
  n.hcb.phase = .failed ∧ n.loader.stat = code ∧ n.loader.failures = s.loader.failures + 1 ∧ n.loader.clearing = true ∧
    n.res = s.res ∧ n.seq = s.seq

/-- An accepted image runs (R77, R412): its pages are executable, and each thread that it names runs at its ENTRY with its
HANDLER, every register 0. -/
def ImageRuns (n : State) (a : Accepted) : Prop :=
  n.hcb.phase = .run ∧ n.loader.stat = 3 ∧ n.loader.record = some a ∧ n.res.pages = a.pages ∧
    ∀ t : Thread, (n.thr t).handler = a.handlers.getD t.val noHandler ∧ (n.thr t).rf = RegFile.initial ∧
      (a.threads.getLsbD t.val = true → (n.thr t).run = .running ∧ (n.thr t).ia = BitVec.ofNat 24 (a.entries.getD t.val 0)) ∧
      (a.threads.getLsbD t.val = false → (n.thr t).run = .notStarted)

/-! ### Good states -/

/-- The Reservoir's data and tags are in canonical form. -/
def State.memOk (s : State) : Prop := Memory.wf s.res.data = true ∧ Memory.wf s.res.tags = true

/-- Every instance has a profile that its chapter defines, and a locked one holds that profile's fields (R7 to R11). -/
def State.subsOk (s : State) : Prop :=
  ∀ (u : Sub) (i : Nat), i < u.count →
    ∃ l, profileFields u (s.sub u i).profile = some l ∧ ((s.sub u i).unlocked = false → (s.sub u i).fields = l)

/-- The mailboxes hold at most 16 words each, the attention queue at most 64 records (R277, R408), and no producer has number 0. -/
def State.queuesOk (s : State) : Prop :=
  s.hcb.mbIn.length ≤ 16 ∧ s.hcb.mbOut.length ≤ 16 ∧ s.journal.attention.length ≤ 64 ∧ 1 ≤ s.nextId

/-- What every step keeps: memory in canonical form, locked instances at their profiles, bounded queues. -/
def State.Inv (s : State) : Prop := s.memOk ∧ s.subsOk ∧ s.queuesOk

end Sys2Proof.Machine
end

