-- ==== Sys2Proof/Certificates/Slice0/Obligations.lean ====
section
/-! DEFINITION. The statements for the provers. -/

open Sys2Proof Sys2Proof.Machine

/-! ### Computation (Chapter 3) -/

/-- Table 3.4, R25, R44, R45, R46: an ALU register instruction gives WD the result in the data bits with the merged tag,
goes on at IA + 1 and changes nothing else. -/
def Obligations.AluRegisterResults : Prop :=
  ∀ row ∈ aluRows, ∀ (t : Thread) (f : FmtR) (s : State),
    f.imm9 = 0 → s.runs t (encR 0x02 row.2.1 f) [f.wa, f.wb] false = true →
    ∃ n, exec (row.1 t f) s = .next n ∧
      WritesReg s n t f.wd
        (mkWord (mergeTag (tagOf (s.reg t f.wa)) (tagOf (s.reg t f.wb)))
          (row.2.2 (dataOf (s.reg t f.wa)) (dataOf (s.reg t f.wb)))) (s.iaOf t + 1)

/-- Tables 3.4 and 3.5, R25, R46, R47, R49: MOV, TAGGET, TAGDOWN, the immediate instructions, KSET and KXOR give WD the result
and the tag of their tables, go on at IA + 1 and change nothing else. -/
def Obligations.ImmediateAndMoveResults : Prop :=
  (∀ row ∈ immRows, ∀ (t : Thread) (f : FmtI) (s : State),
    s.runs t (encI row.2.1 f) [f.wa] false = true →
    ∃ n, exec (row.1 t f) s = .next n ∧
      WritesReg s n t f.wd
        (mkWord (tagOf (s.reg t f.wa)) (row.2.2 (dataOf (s.reg t f.wa)) f.imm.toInt)) (s.iaOf t + 1)) ∧
  (∀ row ∈ shiftRows, ∀ (t : Thread) (f : FmtI) (s : State),
    f.imm.toNat < 64 → s.runs t (encI row.2.1 f) [f.wa] false = true →
    ∃ n, exec (row.1 t f) s = .next n ∧
      WritesReg s n t f.wd
        (mkWord (tagOf (s.reg t f.wa)) (row.2.2 (dataOf (s.reg t f.wa)) f.imm.toNat)) (s.iaOf t + 1)) ∧
  (∀ (t : Thread) (f : FmtR) (s : State),
    f.imm9 = 0 → f.wb = 0 → s.runs t (encR 0x02 0x18 f) [f.wa] false = true →
    ∃ n, exec (.mov t f) s = .next n ∧ WritesReg s n t f.wd (s.reg t f.wa) (s.iaOf t + 1)) ∧
  (∀ (t : Thread) (f : FmtR) (s : State),
    f.imm9 = 0 → f.wb = 0 → s.runs t (encR 0x02 0x19 f) [f.wa] false = true →
    ∃ n, exec (.tagget t f) s = .next n ∧
      WritesReg s n t f.wd
        (mkWord (tagOf (s.reg t f.wa)) (BitVec.ofNat 64 (tagOf (s.reg t f.wa)).toNat)) (s.iaOf t + 1)) ∧
  (∀ (t : Thread) (f : FmtR) (s : State),
    f.imm9 = 0 → s.runs t (encR 0x02 0x1A f) [f.wa, f.wb] false = true →
    ∃ n w, exec (.tagdown t f) s = .next n ∧ WritesReg s n t f.wd w (s.iaOf t + 1) ∧
      dataOf w = dataOf (s.reg t f.wa) ∧ tagOrigin (tagOf w) = tagOrigin (tagOf (s.reg t f.wa)) ∧
      (tagTrust (tagOf w)).toNat = min (tagTrust (tagOf (s.reg t f.wa))).toNat ((dataOf (s.reg t f.wb)).toNat % 4) ∧
      tagPoison (tagOf w) = (tagPoison (tagOf (s.reg t f.wa)) || (dataOf (s.reg t f.wb)).getLsbD 2) ∧
      tagValid (tagOf w) = (tagValid (tagOf (s.reg t f.wa)) && !(dataOf (s.reg t f.wb)).getLsbD 3)) ∧
  (∀ (t : Thread) (f : FmtM) (s : State),
    f.zero = 0 → s.runs t (encM 0x0C f) [] false = true →
    ∃ n, exec (.kset t f) s = .next n ∧
      WritesReg s n t f.wd (constWord (BitVec.ofNat 64 (f.imm.toNat * 2 ^ (16 * f.q.toNat)))) (s.iaOf t + 1)) ∧
  (∀ (t : Thread) (f : FmtM) (s : State),
    f.zero = 0 → s.runs t (encM 0x0D f) [f.wd] false = true →
    ∃ n, exec (.kxor t f) s = .next n ∧
      WritesReg s n t f.wd
        (mkWord (tagOf (s.reg t f.wd))
          (dataOf (s.reg t f.wd) ^^^ BitVec.ofNat 64 (f.imm.toNat * 2 ^ (16 * f.q.toNat)))) (s.iaOf t + 1))

/-! ### Reservoir loads and stores (Chapters 3 and 5) -/

/-- Table 3.5, R51, R80, R98: a Reservoir load on an address that is aligned, in the Reservoir and on data pages issues: its
registers wait for the value, the thread goes on at IA + 1, and nothing else changes. -/
def Obligations.LoadsIssue : Prop :=
  ∀ row ∈ loadRows, ∀ (t : Thread) (f : FmtI) (s : State),
    s.runs t (encI row.2.1 f) [f.wa] false = true → (row.2.2 = .pair → f.wd.val % 2 = 0) →
    s.okAccess row.2.2 (effAddr (s.reg t f.wa) f.imm) = true →
    ∃ n, exec (row.1 t f) s = .next n ∧
      (n.thr t).loads = (s.thr t).loads ++
        [{ id := s.nextId, kind := row.2.2, addr := (effAddr (s.reg t f.wa) f.imm).toNat }] ∧
      (f.wd ≠ 0 → (n.thr t).rf.waits[f.wd] = s.nextId) ∧
      (row.2.2 = .pair → (n.thr t).rf.waits[f.wd + 1] = s.nextId + 1) ∧
      (∀ r, r ≠ f.wd → (row.2.2 = .pair → r ≠ f.wd + 1) →
        n.reg t r = s.reg t r ∧ (n.thr t).rf.ready r = (s.thr t).rf.ready r) ∧
      (n.thr t).ia = s.iaOf t + 1 ∧ (n.thr t).issued = s.issueCount t ∧ n.nextId = s.nextId + 2 ∧
      SameMemory s n ∧ OnlyThread t (s.fetchCorrect t) { n with nextId := s.nextId }

/-- Table 3.5, R87, R96, R98, R101: RESERVOIR_LOAD_RETURN of an outstanding load, the only queued instruction of its thread, gives
every register that waits for it the bytes that the thread reads at its address (its own buffered stores over the
Reservoir), for a pair the second word too, and no other register of the thread changes; with it the load leaves the queue
to its commit. Of several, any load returns that no older access of the thread to the same word holds back. -/
def Obligations.LoadReturns : Prop :=
  (∀ (t : Thread) (s : State) (e : CqEntry) (l : Load),
    (s.thr t).cq = [e] → e.what = .load l → l.id ≠ 0 →
    ∃ m : State, exec (.reservoirLoadReturn ⟨t, 0⟩) s = .next m.proceed ∧
      (∃ eff, (m.thr t).cq.map (fun x => x.what) = [.returned l eff] ∧
        (∀ g, Deferred.reserve g ∈ eff ↔ l.kind = .linked ∧ g = l.addr / 64)) ∧
      (∀ q : Reg, (s.thr t).rf.waitsFor q l.id →
        (m.thr t).rf.ready q = true ∧ m.reg t q = l.kind.loaded l.addr (s.ownRead t (l.addr / 8))) ∧
      (l.kind = .pair → ∀ q : Reg, (s.thr t).rf.waitsFor q (l.id + 1) →
        (m.thr t).rf.ready q = true ∧ m.reg t q = s.ownRead t (l.addr / 8 + 1)) ∧
      (∀ q : Reg, ¬ (s.thr t).rf.waitsFor q l.id → ¬ (l.kind = .pair ∧ (s.thr t).rf.waitsFor q (l.id + 1)) →
        m.reg t q = s.reg t q ∧ (m.thr t).rf.ready q = (s.thr t).rf.ready q) ∧
      (m.thr t).ia = s.iaOf t ∧ m.res = s.res ∧ OnlyThread t s m) ∧
  (∀ (t : Thread) (s : State) (k : Nat) (l : Load),
    (s.thr t).loads[k]? = some l → olderAccess ((s.thr t).cq.take ((s.thr t).loadPlace l.id)) (l.addr, l.kind.size) = false →
    ∃ m : State, exec (.reservoirLoadReturn ⟨t, k⟩) s = .next m.proceed ∧ m = s.returnLoad t l ∧ OnlyThread t s m)

/-- Table 3.5, R44, R51, R98, R107, R109: a Reservoir store on a good address with room in the buffer enters its bytes, enabled,
into an entry of its thread and line; the Reservoir and every register stay as they are. -/
def Obligations.StoresEnterTheBuffer : Prop :=
  ∀ row ∈ storeRows, ∀ (t : Thread) (f : FmtI) (s : State) (a : Nat),
    a = (effAddr (s.reg t f.wa) f.imm).toNat →
    s.runs t (encI row.2.1 f) (storeSrcs row.2.2 f) true = true → (row.2.2 = .pair → f.wd.val % 2 = 0) →
    s.okAccess row.2.2 (effAddr (s.reg t f.wa) f.imm) = true →
    s.unitPending t a row.2.2.size = false → s.canStore t (lineOf a) = true →
    ∃ n, exec (row.1 t f) s = .next n ∧
      (∃ e ∈ n.seq.conf, e.thread = t ∧ e.line = a / 64 ∧
        ∀ i, i < min row.2.2.size 8 → (e.words[Fin.ofNat 8 (a / 8)]).be.getLsbD (a % 8 + i) = true ∧
          byteOf (e.words[Fin.ofNat 8 (a / 8)]).data (a % 8 + i) = byteOf (dataOf (s.reg t f.wd)) i) ∧
      (row.2.2 = .pair → ∃ e ∈ n.seq.conf, e.thread = t ∧ e.line = a / 64 ∧
        (e.words[Fin.ofNat 8 (a / 8 + 1)]).be = 0xFF ∧
        (e.words[Fin.ofNat 8 (a / 8 + 1)]).data = dataOf (s.reg t (f.wd + 1))) ∧
      (∀ u r, n.reg u r = s.reg u r) ∧ (n.thr t).ia = s.iaOf t + 1 ∧ (n.thr t).resv ≠ some (a / 64) ∧ SameMemory s n ∧
      OnlyThread t (s.fetchCorrect t) { n with seq := { n.seq with conf := s.seq.conf } }

/-- R127, Table 3.5, Table 5.5: SCW on a good address, its thread's own entries of the granule drained, writes WB as one word and
WD := 1 when the reservation holds there and no other thread's window does; else it stores nothing and WD := 0. Either
way the reservation is gone, and no byte outside the word changes. -/
def Obligations.StoreConditional : Prop :=
  ∀ (t : Thread) (f : FmtR) (s : State) (a : Nat),
    a = (dataOf (s.reg t f.wa)).toNat →
    f.imm9 = 0 → s.runs t (encR 0x1B 0x00 f) [f.wa, f.wb] true = true →
    s.okAccess .word (dataOf (s.reg t f.wa)) = true →
    s.overlaps t (64 * (a / 64)) 64 = false → s.unitPending t a 8 = false →
    ∃ n, exec (.scw t f) s = .next n ∧ (n.thr t).resv = none ∧ (n.thr t).ia = s.iaOf t + 1 ∧
      (∀ r, r ≠ f.wd → n.reg t r = s.reg t r) ∧
      ((((s.fetchCorrect t).thr t).resv = some (a / 64) ∧ s.protHolds t (a / 64) = false) →
        (f.wd ≠ 0 → n.reg t f.wd = constWord 1) ∧ n.res.word (a / 8) = s.reg t f.wb ∧
        (∀ b, b < a ∨ a + 8 ≤ b → readByte n.res.data b = readByte s.res.data b) ∧
        (∀ w, w ≠ a / 8 → readByte n.res.tags w = readByte s.res.tags w) ∧
        ∀ u, u ≠ t → (n.thr u).resv ≠ some (a / 64)) ∧
      (¬ (((s.fetchCorrect t).thr t).resv = some (a / 64) ∧ s.protHolds t (a / 64) = false) →
        (f.wd ≠ 0 → n.reg t f.wd = constWord 0) ∧ SameMemory s n)

/-- R31, R32, R51, R61, R62, R64, Table 3.17: a Reservoir load or store, all older instructions committed, raises ALIGN on a
misaligned address, else ADDR_RANGE outside the Reservoir, else DATA_ATTR on an executable page, each with the effective
address in XINFO, and has no other effect. -/
def Obligations.AccessExceptions : Prop :=
  (∀ row ∈ loadRows, ∀ (t : Thread) (f : FmtI) (s : State) (a : Data),
    a = effAddr (s.reg t f.wa) f.imm →
    s.runs t (encI row.2.1 f) [f.wa] false = true → s.allCommitted t = true → (row.2.2 = .pair → f.wd.val % 2 = 0) →
    (a.toNat % row.2.2.size ≠ 0 → ∃ n, exec (row.1 t f) s = .next n ∧ TakesException s n t 0x06 a (s.iaOf t)) ∧
    (a.toNat % row.2.2.size = 0 → 2 ^ 26 ≤ a.toNat →
      ∃ n, exec (row.1 t f) s = .next n ∧ TakesException s n t 0x05 a (s.iaOf t)) ∧
    (a.toNat % row.2.2.size = 0 → a.toNat < 2 ^ 26 → s.touchesExec a.toNat row.2.2.size = true →
      ∃ n, exec (row.1 t f) s = .next n ∧ TakesException s n t 0x04 a (s.iaOf t))) ∧
  (∀ row ∈ storeRows, ∀ (t : Thread) (f : FmtI) (s : State) (a : Data),
    a = effAddr (s.reg t f.wa) f.imm →
    s.runs t (encI row.2.1 f) (storeSrcs row.2.2 f) true = true → (row.2.2 = .pair → f.wd.val % 2 = 0) →
    (a.toNat % row.2.2.size ≠ 0 → ∃ n, exec (row.1 t f) s = .next n ∧ TakesException s n t 0x06 a (s.iaOf t)) ∧
    (a.toNat % row.2.2.size = 0 → 2 ^ 26 ≤ a.toNat →
      ∃ n, exec (row.1 t f) s = .next n ∧ TakesException s n t 0x05 a (s.iaOf t)) ∧
    (a.toNat % row.2.2.size = 0 → a.toNat < 2 ^ 26 → s.touchesExec a.toNat row.2.2.size = true →
      ∃ n, exec (row.1 t f) s = .next n ∧ TakesException s n t 0x04 a (s.iaOf t)))

/-- R28, R31, R46, R52, R63, R64, Table 3.17: an ALU register instruction with IMM9 not 0, a pair load or store with an odd WD, and
ERET outside handler mode raise ILLEGAL with the 36-bit instruction in XINFO, and have no other effect. A next instruction whose
code word holds an uncorrectable error raises FETCH_ERROR, else one on a page from which nothing is fetched FETCH_ATTR, both
with the word's byte address, else one of an undefined opcode or function code ILLEGAL, whatever instruction is commanded. -/
def Obligations.IllegalForms : Prop :=
  (∀ row ∈ aluRows, ∀ (t : Thread) (f : FmtR) (s : State),
    f.imm9 ≠ 0 → s.runs t (encR 0x02 row.2.1 f) [f.wa, f.wb] false = true → s.allCommitted t = true →
    ∃ n, exec (row.1 t f) s = .next n ∧
      TakesException s n t 0x01 ((encR 0x02 row.2.1 f).setWidth 64) (s.iaOf t)) ∧
  (∀ (t : Thread) (f : FmtI) (s : State),
    f.wd.val % 2 = 1 → s.runs t (encI 0x18 f) [f.wa] false = true → s.allCommitted t = true →
    ∃ n, exec (.ldw2 t f) s = .next n ∧ TakesException s n t 0x01 ((encI 0x18 f).setWidth 64) (s.iaOf t)) ∧
  (∀ (t : Thread) (f : FmtI) (s : State),
    f.wd.val % 2 = 1 → s.runs t (encI 0x19 f) (storeSrcs .pair f) true = true →
    ∃ n, exec (.stw2 t f) s = .next n ∧ TakesException s n t 0x01 ((encI 0x19 f).setWidth 64) (s.iaOf t)) ∧
  (∀ (t : Thread) (f : FmtR) (s : State),
    s.runs t (encR 0x01 0x04 f) [] true = true → (s.thr t).hmode = false → f.wd = 0 → f.wa = 0 → f.wb = 0 → f.imm9 = 0 →
    ∃ n, exec (.eret t f) s = .next n ∧ TakesException s n t 0x01 ((encR 0x01 0x04 f).setWidth 64) (s.iaOf t)) ∧
  (∀ (t : Thread) (i : Instr) (s : State) (c : BitVec 6) (d : Data), i.issuer = some t →
    s.selectable t = true → s.selected t = true → s.allCommitted t = true →
    (s.res.isBad ((s.iaOf t).toNat / 2) = true ∧ c = 0x02 ∧ d = BitVec.ofNat 64 (8 * ((s.iaOf t).toNat / 2)) ∨
      s.res.isBad ((s.iaOf t).toNat / 2) = false ∧
        (s.fetchable (s.iaOf t) = false ∧ c = 0x03 ∧ d = BitVec.ofNat 64 (8 * ((s.iaOf t).toNat / 2)) ∨
          s.fetchable (s.iaOf t) = true ∧ useOf (s.res.insn (s.iaOf t)) = none ∧ c = 0x01 ∧
            d = (s.res.insn (s.iaOf t)).setWidth 64)) →
    ∃ n, exec i s = .next n ∧ (n.thr t).xcause = c ∧ (n.thr t).xinfo = d ∧ (n.thr t).xia = s.iaOf t ∧
      (∀ r, n.reg t r = s.reg t r) ∧ SameMemory s n)

/-! ### Branches and jumps (Chapters 3 and 4) -/

/-- Table 3.7, R45, R48: a conditional branch with its operands produced goes on at IA + OFF20 where its test on the two words
holds and at IA + 1 where it does not; no register and no byte of memory changes. -/
def Obligations.ReadyBranches : Prop :=
  ∀ row ∈ branchRows, ∀ (t : Thread) (f : FmtB) (pred : Bool) (s : State),
    s.runs t (encB row.2.1.opcode f) [] false = true → (row.2.1.single = true → f.wb = 0) →
    (s.thr t).rf.ready f.wa = true → (s.thr t).rf.ready f.wb = true →
    ∃ n, exec (row.1 t f pred) s = .next n ∧
      (row.2.2 (s.reg t f.wa) (s.reg t f.wb) → (n.thr t).ia = s.iaOf t + BitVec.ofInt 24 f.off.toInt) ∧
      (¬ row.2.2 (s.reg t f.wa) (s.reg t f.wb) → (n.thr t).ia = s.iaOf t + 1) ∧
      (∀ r, n.reg t r = s.reg t r ∧ (n.thr t).rf.ready r = (s.thr t).rf.ready r) ∧
      (n.thr t).issued = s.issueCount t ∧ SameMemory s n ∧ OnlyThread t (s.fetchCorrect t) n

/-- R82, R83, R84: a conditional branch with an operand still waited for, and fewer than two branches unresolved, issues on the
predicted path and waits in the commit queue with the registers as they stand. -/
def Obligations.PredictedBranches : Prop :=
  ∀ row ∈ branchRows, ∀ (t : Thread) (f : FmtB) (pred : Bool) (s : State),
    s.runs t (encB row.2.1.opcode f) [] false = true → (row.2.1.single = true → f.wb = 0) →
    ((s.thr t).rf.ready f.wa = false ∨ (s.thr t).rf.ready f.wb = false) →
    ∃ n e b, exec (row.1 t f pred) s = .next n ∧ (n.thr t).cq = (s.thr t).cq ++ [e] ∧ e.what = .branch b ∧
      e.ckpt = (s.thr t).rf ∧ b.id = s.nextId ∧ b.cond = row.2.1 ∧ b.pred = pred ∧
      (n.thr t).branches = (s.thr t).branches ++ [b] ∧
      (n.thr t).ia = (if pred then s.iaOf t + BitVec.ofInt 24 f.off.toInt else s.iaOf t + 1) ∧
      b.other = (if pred then s.iaOf t + 1 else s.iaOf t + BitVec.ofInt 24 f.off.toInt) ∧
      (n.thr t).rf = (s.thr t).rf ∧ SameMemory s n ∧ OnlyThread t (s.fetchCorrect t) { n with nextId := s.nextId }

/-- R82, R83, R85, R86, R93, R94: the oldest queued instruction of a thread being an unresolved branch with its operands arrived:
predicted right, it has nothing left to do and the thread stays where it is; predicted wrong, the thread goes on the other
path with the registers as they stood at the next instruction, counted in MISPREDICT, every younger instruction gone and
counted in SQUASHED, and the started PURE operations among them run on into the shadow. Where no queue holds an
instruction, no thread waits in a barrier or OTOK and none is stopping, what follows is only that waiting threads wake. -/
def Obligations.BranchResolution : Prop :=
  (∀ (t : Thread) (s : State) (e : CqEntry) (rest : List CqEntry) (b : Branch),
    (s.thr t).cq = e :: rest → e.what = .branch b → b.a.id = 0 → b.b.id = 0 →
    ∃ m : State, exec (.branchResolve t 0) s = .next m.proceed ∧ m.res = s.res ∧
      (b.cond.taken b.a.val b.b.val = b.pred →
        (m.thr t).cq = { e with what := .done } :: rest ∧ (m.thr t).rf = (s.thr t).rf ∧
        (m.thr t).ia = (s.thr t).ia ∧ (m.thr t).mispredict = (s.thr t).mispredict ∧ m.seq.ops = s.seq.ops) ∧
      (b.cond.taken b.a.val b.b.val ≠ b.pred →
        (m.thr t).cq = [{ e with what := .done }] ∧ (m.thr t).ia = b.other ∧
        (m.thr t).rf = ((rest.head?.map fun x => x.ckpt).getD (s.thr t).rf) ∧
        (m.thr t).mispredict = (s.thr t).mispredict + 1 ∧
        (m.thr t).squashed = (s.thr t).squashed + BitVec.ofNat 48 rest.length ∧
        ∀ o ∈ m.seq.ops, (∃ x ∈ rest, x.what = .pure o.id) → o.shadow = true)) ∧
  (∀ s : State, s.clocked = true → s.queuesEmpty = true →
    (∀ t : Thread, (s.thr t).stopping = false ∧ (∀ k, (s.thr t).wait ≠ .fence k) ∧ ∀ d, (s.thr t).wait ≠ .otok d) →
    s.proceed = s.wake)

/-- Table 3.7, R45, R56: JAL and JALR write IA + 1 with constant tag and go on at their targets; JALR on a poisoned or empty WA,
or with a target above 24 bits, raises JUMP_TARGET with the target in XINFO and has no other effect. -/
def Obligations.Jumps : Prop :=
  (∀ (t : Thread) (f : FmtJ) (s : State), s.runs t (encJ 0x28 f) [] false = true →
    ∃ n, exec (.jal t f) s = .next n ∧
      WritesReg s n t f.wd (constWord (BitVec.ofNat 64 (s.iaOf t + 1).toNat)) (s.iaOf t + BitVec.ofInt 24 f.off.toInt)) ∧
  (∀ (t : Thread) (f : FmtI) (s : State) (d : Data),
    s.runs t (encI 0x29 f) [f.wa] false = true → d = dataOf (s.reg t f.wa) + BitVec.ofInt 64 f.imm.toInt →
    (tagPoison (tagOf (s.reg t f.wa)) = false → tagValid (tagOf (s.reg t f.wa)) = true → d.toNat < 2 ^ 24 →
      ∃ n, exec (.jalr t f) s = .next n ∧
        WritesReg s n t f.wd (constWord (BitVec.ofNat 64 (s.iaOf t + 1).toNat)) (BitVec.ofNat 24 d.toNat)) ∧
    (tagPoison (tagOf (s.reg t f.wa)) = true ∨ tagValid (tagOf (s.reg t f.wa)) = false ∨ 2 ^ 24 ≤ d.toNat →
      s.allCommitted t = true →
      ∃ n, exec (.jalr t f) s = .next n ∧ TakesException s n t 0x0B d (s.iaOf t)))

/-! ### System instructions (Table 3.8) -/

/-- Table 3.8, Table 3.9, R57, R79, R96: NOP changes no register and nothing else; HALT stops the thread and clears its
reservation; YIELD marks it passed over once; ERET leaves handler mode for XIA; XRD reads the thread state and TIME Plant
Time (with VALID 0 while fenced); XWR writes the thread state. -/
def Obligations.ThreadControl : Prop :=
  (∀ (t : Thread) (f : FmtR) (s : State),
    f.wd = 0 → f.wa = 0 → f.wb = 0 → f.imm9 = 0 → s.runs t (encR 0x01 0x01 f) [] false = true →
    ∃ n, exec (.nop t f) s = .next n ∧ WritesReg s n t 0 0 (s.iaOf t + 1)) ∧
  (∀ (t : Thread) (f : FmtR) (s : State),
    f.wd = 0 → f.wa = 0 → f.wb = 0 → f.imm9 = 0 → s.runs t (encR 0x01 0x02 f) [] true = true →
    ∃ n, exec (.halt t f) s = .next n ∧ (n.thr t).run = .halted ∧ (n.thr t).resv = none ∧
      (∀ r, n.reg t r = s.reg t r) ∧ SameMemory s n ∧ OnlyThread t (s.fetchCorrect t) n) ∧
  (∀ (t : Thread) (f : FmtR) (s : State),
    f.wd = 0 → f.wa = 0 → f.wb = 0 → f.imm9 = 0 → s.runs t (encR 0x01 0x03 f) [] false = true →
    ∃ n, exec (.yield t f) s = .next n ∧ (n.thr t).yielded = true ∧ (n.thr t).ia = s.iaOf t + 1 ∧
      (∀ r, n.reg t r = s.reg t r) ∧ SameMemory s n ∧ OnlyThread t (s.fetchCorrect t) n) ∧
  (∀ (t : Thread) (f : FmtR) (s : State),
    f.wd = 0 → f.wa = 0 → f.wb = 0 → f.imm9 = 0 → s.runs t (encR 0x01 0x04 f) [] true = true → (s.thr t).hmode = true →
    ∃ n, exec (.eret t f) s = .next n ∧ (n.thr t).hmode = false ∧ (n.thr t).ia = (s.thr t).xia ∧
      (n.thr t).resv = none ∧ (∀ r, n.reg t r = s.reg t r) ∧ SameMemory s n ∧ OnlyThread t (s.fetchCorrect t) n) ∧
  (∀ (t : Thread) (f : FmtR) (s : State),
    f.wa = 0 → f.wb = 0 → f.imm9.toNat < 7 → s.runs t (encR 0x01 0x09 f) [] false = true →
    ∃ n, exec (.xrd t f) s = .next n ∧
      WritesReg s n t f.wd
        (constWord (match f.imm9.toNat with
          | 0 => (s.thr t).xia.setWidth 64
          | 1 => (s.thr t).xcause.setWidth 64
          | 2 => (s.thr t).xinfo
          | 3 => (s.thr t).handler.setWidth 64
          | 4 => (s.thr t).timercmp
          | 5 => BitVec.ofNat 64 t.val
          | _ => if (s.thr t).hmode then 1 else 0)) (s.iaOf t + 1)) ∧
  (∀ (t : Thread) (f : FmtR) (s : State) (d : Data),
    f.wd = 0 → f.wb = 0 → f.imm9.toNat < 5 → s.runs t (encR 0x01 0x0A f) [f.wa] true = true →
    d = dataOf (s.reg t f.wa) →
    ∃ n, exec (.xwr t f) s = .next n ∧ (n.thr t).ia = s.iaOf t + 1 ∧
      (n.thr t).xia = (if f.imm9 = 0 then d.setWidth 24 else (s.thr t).xia) ∧
      (n.thr t).xcause = (if f.imm9 = 1 then d.setWidth 6 else (s.thr t).xcause) ∧
      (n.thr t).xinfo = (if f.imm9 = 2 then d else (s.thr t).xinfo) ∧
      (n.thr t).handler = (if f.imm9 = 3 then d.setWidth 32 else (s.thr t).handler) ∧
      (n.thr t).timercmp = (if f.imm9 = 4 then d else (s.thr t).timercmp) ∧
      (∀ r, n.reg t r = s.reg t r) ∧ SameMemory s n ∧ OnlyThread t (s.fetchCorrect t) n) ∧
  (∀ (t : Thread) (f : FmtR) (s : State),
    f.wa = 0 → f.wb = 0 → f.imm9 = 0 → s.runs t (encR 0x01 0x0B f) [] false = true →
    ∃ n, exec (.time t f) s = .next n ∧
      WritesReg s n t f.wd (mkWord (mkTag 0 3 (!s.timeFenced) false) s.time.now) (s.iaOf t + 1))

/-- Table 3.8, R61, R62: TRAP takes the exception 0x0D with IMM9 in XINFO and XIA the address after it. -/
def Obligations.Trap : Prop :=
  ∀ (t : Thread) (f : FmtR) (s : State),
    f.wd = 0 → f.wa = 0 → f.wb = 0 → s.runs t (encR 0x01 0x05 f) [] true = true →
    ∃ n, exec (.trap t f) s = .next n ∧ TakesException s n t 0x0D (f.imm9.setWidth 64) (s.iaOf t + 1)

/-- R59, Table 3.9: TSTART of a thread that does not run starts it at WA[23:0]; of a running thread it has no effect. TSTOP of
another thread with nothing uncommitted stops it with its registers; TSTOP of a thread that does not run has no effect,
and of the issuing thread acts as HALT. -/
def Obligations.StartAndStopThreads : Prop :=
  (∀ (t : Thread) (f : FmtR) (s : State),
    f.wd = 0 → f.wb = 0 → f.imm9.toNat < 8 → s.runs t (encR 0x01 0x07 f) [f.wa] true = true →
    ∃ n, exec (.tstart t f) s = .next n ∧ (n.thr t).ia = s.iaOf t + 1 ∧
      ((s.thr (immThread f)).run ≠ .running →
        (n.thr (immThread f)).run = .running ∧
          (n.thr (immThread f)).ia = (dataOf (s.reg t f.wa)).setWidth 24) ∧
      (∀ u, u ≠ t → (u ≠ immThread f ∨ (s.thr u).run = .running) → n.thr u = (s.fetchCorrect t).thr u) ∧
      (∀ u r, n.reg u r = s.reg u r) ∧ SameMemory s n) ∧
  (∀ (t : Thread) (f : FmtR) (s : State),
    f.wd = 0 → f.wa = 0 → f.wb = 0 → f.imm9.toNat < 8 → s.runs t (encR 0x01 0x08 f) [] true = true →
    ∃ n, exec (.tstop t f) s = .next n ∧ SameMemory s n ∧
      (immThread f = t → (n.thr t).run = .halted ∧ (n.thr t).resv = none) ∧
      (immThread f ≠ t → (s.thr (immThread f)).run ≠ .running → n.thr (immThread f) = (s.fetchCorrect t).thr (immThread f)) ∧
      (immThread f ≠ t → (s.thr (immThread f)).run = .running → (s.thr (immThread f)).stopping = false →
        s.allCommitted (immThread f) = true → (s.thr (immThread f)).wait.toComplete = .none →
        (s.seq.ops.any fun o => o.live (immThread f)) = false →
        (s.seq.ext.any fun x => x.thread = immThread f && !x.performed) = false →
        (n.thr (immThread f)).run = .halted ∧ (n.thr (immThread f)).resv = none ∧
          ∀ r, n.reg (immThread f) r = s.reg (immThread f) r))

/-- R58: MBRD takes the oldest word of the inbound mailbox with the tag of host words, or an empty word; MBWR puts WA behind the
outbound mailbox's words while it holds fewer than 16, and else the thread waits with its word. -/
def Obligations.Mailboxes : Prop :=
  (∀ (t : Thread) (f : FmtR) (s : State),
    f.wa = 0 → f.wb = 0 → f.imm9 = 0 → s.runs t (encR 0x01 0x0C f) [] true = true →
    ∃ n, exec (.mbrd t f) s = .next n ∧ (n.thr t).ia = s.iaOf t + 1 ∧ SameMemory s n ∧
      (∀ r, r ≠ f.wd → n.reg t r = s.reg t r) ∧
      (∀ d r, s.hcb.mbIn = d :: r → n.hcb.mbIn = r ∧ (f.wd ≠ 0 → n.reg t f.wd = mkWord s.hostTag d)) ∧
      (s.hcb.mbIn = [] → n.hcb.mbIn = [] ∧ (f.wd ≠ 0 → tagValid (tagOf (n.reg t f.wd)) = false)) ∧
      OnlyThread t (s.fetchCorrect t) { n with hcb := s.hcb }) ∧
  (∀ (t : Thread) (f : FmtR) (s : State),
    f.wd = 0 → f.wb = 0 → f.imm9 = 0 → s.runs t (encR 0x01 0x0D f) [f.wa] true = true →
    ∃ n, exec (.mbwr t f) s = .next n ∧ SameMemory s n ∧ (∀ r, n.reg t r = s.reg t r) ∧
      (s.hcb.mbOut.length < 16 →
        n.hcb.mbOut = s.hcb.mbOut ++ [s.reg t f.wa] ∧ (n.thr t).ia = s.iaOf t + 1) ∧
      (16 ≤ s.hcb.mbOut.length →
        n.hcb.mbOut = s.hcb.mbOut ∧ (n.thr t).ia = s.iaOf t ∧ (n.thr t).wait = .mbwr (s.reg t f.wa)) ∧
      OnlyThread t (s.fetchCorrect t) { n with hcb := s.hcb })

/-- R60, Table 3.10: WAITEV with a mask of 0 returns 0 at once; with an event of the mask pending it returns every pending event
of the mask with constant tag, and the sticky events it returns are clear; else the thread waits. TIMER_EXPIRE returns a
waiting WAITEV whose event is pending, and only while the sequencer has its clock. -/
def Obligations.Events : Prop :=
  (∀ (t : Thread) (f : FmtR) (s : State) (mask ev : BitVec 13),
    f.wb = 0 → f.imm9 = 0 → s.runs t (encR 0x01 0x06 f) [f.wa] true = true →
    mask = (dataOf (s.reg t f.wa)).setWidth 13 → ev = (s.levels t ||| s.seq.sticky) &&& mask →
    ∃ n, exec (.waitev t f) s = .next n ∧ SameMemory s n ∧ (∀ r, r ≠ f.wd → n.reg t r = s.reg t r) ∧
      (mask = 0 ∨ ev ≠ 0 →
        (f.wd ≠ 0 → n.reg t f.wd = constWord (ev.setWidth 64)) ∧ (n.thr t).ia = s.iaOf t + 1 ∧
        n.seq.sticky = s.seq.sticky &&& ~~~ev) ∧
      (mask ≠ 0 → ev = 0 →
        n.reg t f.wd = s.reg t f.wd ∧ (n.thr t).ia = s.iaOf t ∧ (n.thr t).wait = .waitev f.wd mask ∧
        n.seq.sticky = s.seq.sticky)) ∧
  (∀ (t : Thread) (s : State) (wd : Reg) (mask ev : BitVec 13),
    (s.thr t).wait = .waitev wd mask → s.clocked = true → ev = (s.levels t ||| s.seq.sticky) &&& mask → ev ≠ 0 →
    ∃ n, exec (.timerExpire t) s = .next n ∧ (wd ≠ 0 → n.reg t wd = constWord (ev.setWidth 64)) ∧
      (∀ r, r ≠ wd → n.reg t r = s.reg t r) ∧ (n.thr t).wait = .none ∧ (n.thr t).ia = s.iaOf t + 1 ∧
      n.seq.sticky = s.seq.sticky &&& ~~~ev ∧ n.res = s.res)

/-- R104 to R106, R108, Table 5.4: a barrier closes the thread's entries, makes them drain where it orders stores, and keeps the
thread waiting for its condition; FENCE.IO finds a tag for each flush. OTOK keeps the thread waiting for its domain. -/
def Obligations.Barriers : Prop :=
  (∀ row ∈ ([(.fenceLl, 0x10, ⟨true, false, false⟩), (.fenceLs, 0x11, ⟨true, false, false⟩),
      (.fenceSl, 0x12, ⟨false, true, false⟩), (.fenceSs, 0x13, ⟨false, true, false⟩),
      (.fenceAll, 0x14, ⟨true, true, false⟩), (.fenceIo, 0x15, ⟨true, true, true⟩)] :
      List ((Thread → FmtR → Instr) × BitVec 6 × FenceNeeds)), ∀ (t : Thread) (f : FmtR) (s : State),
    f.wd = 0 → f.wa = 0 → f.wb = 0 → f.imm9 = 0 → s.runs t (encR 0x01 row.2.1 f) [] true = true →
    (row.2.2.io = true → (s.unflushed t).all (fun q => (s.freeTag q.port).isSome) = true) →
    ∃ n, exec (row.1 t f) s = .next n ∧ (n.thr t).wait = .fence row.2.2 ∧ (n.thr t).ia = s.iaOf t + 1 ∧
      (∀ e ∈ n.seq.conf, e.thread = t → e.isOpen = false ∧ (row.2.2.stores = true → e.draining = true)) ∧
      n.seq.conf.map (fun e => (e.thread, e.line, e.words)) = s.seq.conf.map (fun e => (e.thread, e.line, e.words)) ∧
      (∀ e ∈ s.seq.conf, e.thread ≠ t → e ∈ n.seq.conf) ∧
      (∀ u r, n.reg u r = s.reg u r) ∧ SameMemory s n) ∧
  (∀ (t : Thread) (f : FmtR) (s : State),
    f.wd = 0 → f.wa = 0 → f.wb = 0 → f.imm9.toNat < 256 → f.imm9 ≠ 0 → s.runs t (encR 0x01 0x16 f) [] true = true →
    ∃ n, exec (.otok t f) s = .next n ∧ (n.thr t).wait = .otok (f.imm9.setWidth 8) ∧ (n.thr t).ia = s.iaOf t + 1 ∧
      (∀ r, n.reg t r = s.reg t r) ∧ SameMemory s n ∧ OnlyThread t (s.fetchCorrect t) n)

/-- R58, R60, R80, R104, R106, R108: a thread waiting in a barrier or an OTOK whose condition does not hold, in a WAITEV or in an
MBWR issues nothing, whatever instruction is commanded. -/
def Obligations.BarriersHold : Prop :=
  ∀ (t : Thread) (i : Instr) (s : State), i.issuer = some t →
    ((∃ k, (s.thr t).wait = .fence k ∧ s.fenceDone t k = false) ∨ (∃ d, (s.thr t).wait = .otok d ∧ s.otokDone t d = false) ∨
      (∃ wd mask, (s.thr t).wait = .waitev wd mask) ∨ ∃ w, (s.thr t).wait = .mbwr w) →
    exec i s = .next s

/-! ### External accesses (Table 3.6) -/

/-- R52, R53, R55, R115, R167, Table 3.6: a legal external access on good addresses with room issues. By route 01 or 10 its
request is queued on that MX port; a non-posted one is outstanding there under a free tag and WB waits for its status
(LDX: WD for its data); a posted one has status 0x0 at once. By route 00 it is presented to the stages of Table 1.3. -/
def Obligations.ExternalAccesses : Prop :=
  ∀ row ∈ ([(.ldx, 0x1C, .ldx), (.stx, 0x1D, .stx), (.xrdb, 0x1E, .xrdb), (.xwrb, 0x1F, .xwrb)] :
      List ((Thread → FmtX → Instr) × BitVec 6 × ExtKind)), ∀ (t : Thread) (f : FmtX) (s : State) (own : Nat),
    s.runs t (encX row.2.1 f) (if row.2.2 = .ldx then [f.wa] else [f.wa, f.wd]) true = true →
    FmtX.illegal row.2.2 f = false →
    own = (if row.2.2 = .xrdb ∨ row.2.2 = .xwrb then (dataOf (s.reg t f.wd)).toNat else 0) →
    s.extFault row.2.2 f (dataOf (s.reg t f.wa)) (BitVec.ofNat 64 own) = none →
    (row.2.2 = .xrdb ∨ row.2.2 = .xwrb → s.overlaps t own (FmtX.bytes row.2.2 f) = false ∧
      s.unitPending t own (FmtX.bytes row.2.2 f) = false) → s.extRoom t f = true → 0 < s.nextId →
    ∃ n, exec (row.1 t f) s = .next n ∧
      (f.route = 0 → n = (s.fetchCorrect t).goOn t ((s.fetchCorrect t).startExt t row.2.2 f
        ((dataOf (s.reg t f.wa)).toNat % 2 ^ 48) own (s.reg t f.wd)) (s.iaOf t + 1)) ∧
      (∀ p : MxNo, f.route = 1 ∧ p = 0 ∨ f.route = 2 ∧ p = 1 →
        (n.thr t).ia = s.iaOf t + 1 ∧ SameMemory s n ∧
        (∀ r, r ≠ f.wb → (row.2.2 = .ldx → r ≠ f.wd) → (s.thr t).rf.ready r = true → n.reg t r = s.reg t r) ∧
        (f.posted = true → (f.wb ≠ 0 → n.reg t f.wb = constWord 0 ∧ (n.thr t).rf.ready f.wb = true) ∧
          n.mxt[p].reqs = s.mxt[p].reqs ∧ n.mxt[p].queues[0].length = s.mxt[p].queues[0].length + 1) ∧
        (f.posted = false → (f.wb ≠ 0 → (n.thr t).rf.waits[f.wb] = s.nextId) ∧
          (row.2.2 = .ldx → f.wd ≠ 0 → f.wd ≠ f.wb → (n.thr t).rf.waits[f.wd] = s.nextId + 1) ∧
          (∃ x, n.seq.ext = s.seq.ext ++ [x] ∧ x.id = s.nextId ∧ x.thread = t ∧ x.kind = row.2.2 ∧
            x.addr = (dataOf (s.reg t f.wa)).toNat % 2 ^ 48 ∧ x.len = FmtX.bytes row.2.2 f ∧ x.performed = false) ∧
          (∃ q, n.mxt[p].reqs = s.mxt[p].reqs ++ [q] ∧ q.owner = .ext s.nextId ∧ some q.tag = s.freeTag p ∧
            q.addr = (dataOf (s.reg t f.wa)).toNat % 2 ^ 48 ∧ q.len = FmtX.bytes row.2.2 f) ∧
          n.mxt[p].queues[1].length = s.mxt[p].queues[1].length + 1))

/-! ### Coprocessors (Chapters 3, 4, 10, 11 and 14) -/

/-- Table 3.11, R25, R50, R88, R450: CRC32C, CRC16, CRC8 and CSUM16 with IMM8 1 to 8 (even for CSUM16) start as PURE operations
of CP1 whose one result is the updated sum under the merged tag; no other register and no byte of memory changes. -/
def Obligations.ChecksumsStart : Prop :=
  ∀ row ∈ sumRows, ∀ (t : Thread) (f : FmtC) (s : State),
    1 ≤ f.imm8.toNat → f.imm8.toNat ≤ 8 → (row.2.2.1 = true → f.imm8.toNat % 2 = 0) →
    s.runs t (encC 0x31 row.2.1 f) [f.wa, f.wb] false = true → s.unitFree .cp1 = true →
    ∃ n, exec (row.1 t f) s = .next n ∧ KeepsRegs s n t [f.wd] ∧
      StartsOp s n t .cp1 false [f.wd]
        [mkWord (mergeTag (tagOf (s.reg t f.wa)) (tagOf (s.reg t f.wb)))
          (row.2.2.2 (dataOf (s.reg t f.wa)) (dataOf (s.reg t f.wb)) f.imm8.toNat)]

/-- Table 3.11, R65, R90, R91, R113: HASH384 of at most 65,536 bytes and ECVERIFY of a 240-byte block start as PURE operations on
a range in the Reservoir, on data pages, with none of the thread's own stores buffered there and no branch unresolved: the
digest in six words, or 1 or 0, under the merged tag of the words read. -/
def Obligations.HashAndVerifyStart : Prop :=
  (∀ (t : Thread) (f : FmtC) (s : State) (a k : Nat),
    a = (dataOf (s.reg t f.wa)).toNat → k = (dataOf (s.reg t f.wb)).toNat → f.imm8 = 0 → f.wd.val ≤ 26 →
    s.runs t (encC 0x32 0x01 f) [f.wa, f.wb] false = true → s.unitFree .hash = true → s.readWaits t a k = false →
    k ≤ 65536 → (k ≠ 0 → a + k ≤ 2 ^ 26) → s.touchesExec a k = false → s.overlaps t a k = false →
    ∃ n, exec (.hash384 t f) s = .next n ∧ KeepsRegs s n t (digestRegs f.wd) ∧
      StartsOp s n t .hash false (digestRegs f.wd) (digestWords (mergeTags (s.unitTags a k)) (sha384 (s.unitBytes a k)))) ∧
  (∀ (t : Thread) (f : FmtC) (s : State) (a : Nat),
    a = (dataOf (s.reg t f.wa)).toNat → f.imm8 = 0 → f.wb = 0 →
    s.runs t (encC 0x32 0x02 f) [f.wa] false = true → s.unitFree .ec = true → s.readWaits t a 240 = false →
    a % 8 = 0 → a + 240 ≤ 2 ^ 26 → s.touchesExec a 240 = false → s.overlaps t a 240 = false →
    ∃ n, exec (.ecverify t f) s = .next n ∧ KeepsRegs s n t [f.wd] ∧
      StartsOp s n t .ec false [f.wd]
        [mkWord (mergeTags (s.unitTags a 240))
          (if ecdsaVerify (blockNumber (s.unitBytes a 240) 0) (blockNumber (s.unitBytes a 240) 1)
              (blockNumber (s.unitBytes a 240) 2) (blockNumber (s.unitBytes a 240) 3) (blockNumber (s.unitBytes a 240) 4)
            then 1 else 0)])

/-- R89, R92, R94: COPROCESSOR_COMPLETE of a unit takes its oldest operation that is neither squashed nor waiting and delivers its
result to the registers that wait for it, and to no other register of the thread; a PURE instruction has then nothing left
to do. -/
def Obligations.OperationsComplete : Prop :=
  ∀ (u : CpUnit) (s : State) (o : CpOp) (w : Word),
    (s.seq.ops.find? fun o => o.unit = u && !o.shadow && !(s.seq.jwaits.any fun w => w.id = o.id)) = some o →
    o.results = [w] → o.writes = [] → o.id ≠ 0 →
    ∃ m : State, exec (.coprocessorComplete u) s = .next m.proceed ∧ m.seq.ops = s.seq.ops.filter (fun x => x.id != o.id) ∧
      (∀ q : Reg, (s.thr o.thread).rf.waitsFor q o.id → m.reg o.thread q = w ∧ (m.thr o.thread).rf.ready q = true) ∧
      (∀ q : Reg, ¬ (s.thr o.thread).rf.waitsFor q o.id →
        m.reg o.thread q = s.reg o.thread q ∧ (m.thr o.thread).rf.ready q = (s.thr o.thread).rf.ready q) ∧
      (∀ p ∈ (m.thr o.thread).cq, p.what ≠ .pure o.id) ∧ SameMemory s m

/-- R61, R62, R91, R373, Table 3.17: a coprocessor instruction that its unit, being free, finds at fault, with every older
instruction committed, raises CP_FAULT with the coprocessor's number and the fault code: HASH384 of more than 65,536 bytes with
0x01; HASH384, ECVERIFY, GCMSEAL, GCMOPEN and IDSIGN on a range with the fault of its address (0x04 misaligned, 0x02 leaving the
Reservoir, 0x03 on an executable page or the journal region; of several the
first, an order that for HASH384 and ECVERIFY is the model's choice, log 91). -/
def Obligations.CoprocessorFaults : Prop :=
  ∀ (t : Thread) (f : FmtC) (s : State) (a k : Nat),
    a = (dataOf (s.reg t f.wa)).toNat → k = (dataOf (s.reg t f.wb)).toNat → f.imm8 = 0 → s.allCommitted t = true →
    (f.wd.val ≤ 26 → s.runs t (encC 0x32 0x01 f) [f.wa, f.wb] false = true → s.unitFree .hash = true →
      (65536 < k → ∃ n, exec (.hash384 t f) s = .next n ∧ TakesException s n t 0x0C 0x0102 (s.iaOf t)) ∧
      (∀ c, k ≤ 65536 → s.rangeFault a k false = some c →
        ∃ n, exec (.hash384 t f) s = .next n ∧ TakesException s n t 0x0C (BitVec.ofNat 64 (2 + 256 * c.toNat)) (s.iaOf t))) ∧
    (f.wb = 0 →
      (∀ c, s.runs t (encC 0x32 0x02 f) [f.wa] false = true → s.unitFree .ec = true → s.rangeFault a 240 true = some c →
        ∃ n, exec (.ecverify t f) s = .next n ∧ TakesException s n t 0x0C (BitVec.ofNat 64 (2 + 256 * c.toNat)) (s.iaOf t)) ∧
      (∀ c, s.runs t (encC 0x32 0x10 f) [f.wa] true = true → s.unitFree .aes = true → s.rangeFault a 64 true = some c →
        ∃ n, exec (.gcmseal t f) s = .next n ∧ TakesException s n t 0x0C (BitVec.ofNat 64 (2 + 256 * c.toNat)) (s.iaOf t)) ∧
      (∀ c, s.runs t (encC 0x32 0x11 f) [f.wa] true = true → s.unitFree .aes = true → s.rangeFault a 64 true = some c →
        ∃ n, exec (.gcmopen t f) s = .next n ∧ TakesException s n t 0x0C (BitVec.ofNat 64 (2 + 256 * c.toNat)) (s.iaOf t)) ∧
      (∀ c, s.runs t (encC 0x32 0x12 f) [f.wa] true = true → s.unitFree .ec = true → s.rangeFault a 152 true = some c →
        ∃ n, exec (.idsignSign t f) s = .next n ∧ exec (.idsignAgree t f) s = .next n ∧
          TakesException s n t 0x0C (BitVec.ofNat 64 (2 + 256 * c.toNat)) (s.iaOf t)))

/-- R93, Table 4.5: SHADOW_COMPLETE ends the unit's oldest squashed operation: it counts in SHADOW and its latency in SHADOWBUSY,
and no register and no byte of memory changes. -/
def Obligations.ShadowOperationsEnd : Prop :=
  ∀ (u : CpUnit) (s : State) (o : CpOp),
    (s.seq.ops.find? fun o => o.unit = u && o.shadow) = some o →
    ∃ m : State, exec (.shadowComplete u) s = .next m.proceed ∧ m.seq.ops = s.seq.ops.filter (fun x => x.id != o.id) ∧
      m.seq.shadow[unitIdx u] = s.seq.shadow[unitIdx u] + 1 ∧
      m.seq.shadowBusy[unitIdx u] = s.seq.shadowBusy[unitIdx u] + BitVec.ofNat 48 o.latency ∧
      m.seq.threads = s.seq.threads ∧ m.res = s.res ∧ OnlySeq s m

/-- R285, R294, R295, R304, R423, Tables 11.5 and 11.6: the CP0 instructions. RIFSTART runs a stopped engine and puts each of its
enabled channels at ENTRY with its registers at their start values; RIFSTOP stops a running one; RIFPUSH of a good word
that Levee admits, with room, and RIFPOP of a word queue their operation; RIFSTAT reads the channel or engine word; RIFCLR
clears the engine flags named. -/
def Obligations.RiffleControl : Prop :=
  (∀ (t : Thread) (f : FmtC) (s : State) (e : EngNo),
    e = engineOf (s.reg t f.wa) → f.wd = 0 → f.wb = 0 → f.imm8 = 0 →
    s.runs t (encC 0x30 0x01 f) [f.wa] true = true → s.unitFree .cp0 = true → s.engines[e].running = false →
    ∃ n, exec (.rifstart t f) s = .next n ∧ StartsOp s n t .cp0 true [] [] ∧ KeepsRegs s n t [] ∧
      n.engines[e].running = true ∧ n.engines[e].next = 0 ∧
      (∀ g : ChanNo, engOf g = e → s.chans[g].cfg.enable = true →
        n.chans[g].pc = s.chans[g].cfg.entry ∧ n.chans[g].c0 = 0 ∧ n.chans[g].c1 = 0 ∧
        n.chans[g].tf = BitVec.allOnes 64 ∧ n.chans[g].tp = 64 ∧ n.chans[g].rf = 0 ∧ n.chans[g].rp = 0 ∧
        n.chans[g].faulted = false) ∧
      n.engines[e].ops = [] ∧ (∀ g : ChanNo, n.chans[g].flags = s.chans[g].flags) ∧
      (∀ g : ChanNo, (engOf g ≠ e ∨ s.engines[e].ops = []) → n.chans[g].txq = s.chans[g].txq ∧ n.chans[g].rxq = s.chans[g].rxq)) ∧
  (∀ (t : Thread) (f : FmtC) (s : State) (e : EngNo),
    e = engineOf (s.reg t f.wa) → f.wd = 0 → f.wb = 0 → f.imm8 = 0 →
    s.runs t (encC 0x30 0x02 f) [f.wa] true = true → s.unitFree .cp0 = true → s.engines[e].running = true →
    ∃ n, exec (.rifstop t f) s = .next n ∧ StartsOp s n t .cp0 true [] [] ∧ KeepsRegs s n t [] ∧
      n.engines[e].running = false ∧
      (∀ g : ChanNo, n.chans[g].txq = s.chans[g].txq ∧ n.chans[g].rxq = s.chans[g].rxq) ∧
      (∀ g : ChanNo, engOf g = e → s.chans[g].change = [] → s.chans[g].cfg.stopHold = false → n.chans[g].ens = 0)) ∧
  (∀ (t : Thread) (f : FmtC) (s : State) (g : ChanNo),
    g = channelOf (s.reg t f.wa) → f.imm8 = 0 →
    s.runs t (encC 0x30 0x03 f) [f.wa, f.wb] true = true → s.unitFree .cp0 = true →
    isGood (s.reg t f.wb) = true → s.pinAdmits (s.reg t f.wb) = true → s.txLevel g < s.chans[g].txDepth →
    ∃ n, exec (.rifpush t f) s = .next n ∧ StartsOp s n t .cp0 true [f.wd] [constWord 1] ∧ KeepsRegs s n t [f.wd] ∧
      n.engines[engOf g].ops = s.engines[engOf g].ops ++ [.push g (s.reg t f.wb)] ∧ n.txLevel g = s.txLevel g + 1) ∧
  (∀ (t : Thread) (f : FmtC) (s : State) (g : ChanNo),
    g = channelOf (s.reg t f.wa) → f.wb = 0 → f.imm8 = 0 →
    s.runs t (encC 0x30 0x04 f) [f.wa] true = true → s.unitFree .cp0 = true →
    ∃ n, exec (.rifpop t f) s = .next n ∧ KeepsRegs s n t [f.wd] ∧
      (s.rxMirror g = [] → StartsOp s n t .cp0 true [f.wd] [emptyWord] ∧ n.engines[engOf g].ops = s.engines[engOf g].ops) ∧
      (∀ w r, s.rxMirror g = w :: r → StartsOp s n t .cp0 true [f.wd] [w] ∧ n.rxMirror g = r ∧
        n.engines[engOf g].ops = s.engines[engOf g].ops ++ [.pop g])) ∧
  (∀ (t : Thread) (f : FmtC) (s : State),
    f.wb = 0 → f.imm8 = 0 → s.runs t (encC 0x30 0x05 f) [f.wa] true = true → s.unitFree .cp0 = true →
    ((dataOf (s.reg t f.wa)).getLsbD 6 = false →
      ∃ n, exec (.rifstatChannel t f) s = .next n ∧ KeepsRegs s n t [f.wd] ∧
        StartsOp s n t .cp0 true [f.wd] [constWord (s.channelWord (channelOf (s.reg t f.wa)))]) ∧
    ((dataOf (s.reg t f.wa)).getLsbD 6 = true →
      ∃ n, exec (.rifstatEngine t f) s = .next n ∧ KeepsRegs s n t [f.wd] ∧
        StartsOp s n t .cp0 true [f.wd] [constWord (s.engineWord (engineOf (s.reg t f.wa)))])) ∧
  (∀ (t : Thread) (f : FmtC) (s : State),
    f.wd = 0 → f.imm8 = 0 → s.runs t (encC 0x30 0x06 f) [f.wa, f.wb] true = true → s.unitFree .cp0 = true →
    ((dataOf (s.reg t f.wa)).getLsbD 6 = true →
      ∃ n, exec (.rifclrEngine t f) s = .next n ∧ StartsOp s n t .cp0 true [] [] ∧ KeepsRegs s n t [] ∧
        n.engines[engineOf (s.reg t f.wa)].flags =
          s.engines[engineOf (s.reg t f.wa)].flags &&& ~~~((dataOf (s.reg t f.wb)).setWidth 8)) ∧
    ((dataOf (s.reg t f.wa)).getLsbD 6 = false →
      ∃ n, exec (.rifclrChannel t f) s = .next n ∧ StartsOp s n t .cp0 true [] [] ∧ KeepsRegs s n t [] ∧
        ∀ i, i ≠ 2 → i ≠ 3 → n.chans[channelOf (s.reg t f.wa)].flags.getLsbD i =
          (s.chans[channelOf (s.reg t f.wa)].flags.getLsbD i && !(dataOf (s.reg t f.wb)).getLsbD i)))

/-- R278, Table 10.5: the CP3 instructions on a port that is present with the journal on. JSTAT reads the port's counts, takes the
oldest attention record, or reads one entry; JSYNC with nothing to wait for answers 0 not yet final; JDRAIN closes and
reopens the port's journal; JPOISON makes a RECORDED entry final with JOUT 8. -/
def Obligations.JournalInstructions : Prop :=
  (∀ (t : Thread) (f : FmtC) (s : State) (n : PbNo),
    n = portOf (s.reg t f.wa) → f.imm8 = 0 → s.runs t (encC 0x33 0x01 f) [f.wa, f.wb] true = true →
    s.unitFree .cp3 = true → s.cp3Void n = false →
    (((dataOf (s.reg t f.wa)).extractLsb' 2 2) = 0 →
      ∃ s', exec (.jstatPort t f) s = .next s' ∧ KeepsRegs s s' t [f.wd] ∧
        StartsOp s s' t .cp3 true [f.wd]
          [constWord (BitVec.ofNat 64 ((s.jsnsOf n fun e => e.state != .final).length +
            2 ^ 24 * s.journal.attention.length + 2 ^ 32 * s.freeLines))]) ∧
    (((dataOf (s.reg t f.wa)).extractLsb' 2 2) = 1 →
      ∃ s', exec (.jstatAttention t f) s = .next s' ∧ KeepsRegs s s' t [f.wd] ∧
        s'.journal.attention = s.journal.attention.tail ∧
        (s.journal.attention = [] → StartsOp s s' t .cp3 true [f.wd] [emptyWord]) ∧
        ∀ x r, s.journal.attention = x :: r →
          StartsOp s s' t .cp3 true [f.wd]
            [constWord (BitVec.ofNat 64 (x.jsn % 2 ^ 48 + 2 ^ 48 * x.jout.toNat + 2 ^ 52 * x.port.val))]) ∧
    (((dataOf (s.reg t f.wa)).extractLsb' 2 2) = 2 →
      ∃ s', exec (.jstatEntry t f) s = .next s' ∧ KeepsRegs s s' t [f.wd] ∧
        ∀ e, s.entry n ((dataOf (s.reg t f.wb)).toNat % 2 ^ 48) = some e →
          StartsOp s s' t .cp3 true [f.wd] [constWord (BitVec.ofNat 64 (e.code + 16 * e.jout.toNat + 256 * e.wseq.toNat))])) ∧
  (∀ (t : Thread) (f : FmtC) (s : State) (n : PbNo),
    n = portOf (s.reg t f.wa) → f.imm8 = 0 → s.runs t (encC 0x33 0x02 f) [f.wa, f.wb] true = true →
    s.unitFree .cp3 = true → s.cp3Void n = false → (∀ e ∈ s.journal.entries, e.port = n → s.holdsSync n e.jsn = false) →
    ∃ s', exec (.jsync t f) s = .next s' ∧ KeepsRegs s s' t [f.wd] ∧ StartsOp s s' t .cp3 true [f.wd] [constWord 0]) ∧
  (∀ (t : Thread) (f : FmtC) (s : State) (n : PbNo),
    n = portOf (s.reg t f.wa) → f.imm8 = 0 → s.runs t (encC 0x33 0x03 f) [f.wa, f.wb] true = true →
    s.unitFree .cp3 = true → s.cp3Void n = false →
    ((dataOf (s.reg t f.wa)).getLsbD 2 = false →
      ∃ s', exec (.jdrainClose t f) s = .next s' ∧ KeepsRegs s s' t [f.wd] ∧ s'.pb[n].jclosed = true) ∧
    ((dataOf (s.reg t f.wa)).getLsbD 2 = true →
      ∃ s', exec (.jdrainReopen t f) s = .next s' ∧ KeepsRegs s s' t [f.wd] ∧ s'.pb[n].jclosed = false ∧
        StartsOp s s' t .cp3 true [f.wd] [constWord 0])) ∧
  (∀ (t : Thread) (f : FmtC) (s : State) (n : PbNo) (e : JEntry),
    n = portOf (s.reg t f.wa) → f.imm8 = 0 → s.runs t (encC 0x33 0x04 f) [f.wa, f.wb] true = true →
    s.unitFree .cp3 = true → s.cp3Void n = false →
    s.entry n ((dataOf (s.reg t f.wb)).toNat % 2 ^ 48) = some e → e.state = .recorded → e.mirrored = false →
    ∃ s', exec (.jpoison t f) s = .next s' ∧
      s'.entry n e.jsn = some
        { e with state := .final, jout := 8, answers := [],
                 words := e.words.map fun w => mkWord (poisonTag (tagOf w)) (dataOf w) })

/-- R278: JOURNAL_WAIT_LIMIT ends the thread's wait, and the register that waits for it receives the number of entries not yet
final, with constant tag. -/
def Obligations.JournalWaitsEnd : Prop :=
  ∀ (t : Thread) (s : State) (w : JWait) (o : CpOp),
    (s.seq.jwaits.find? fun w => w.thread = t) = some w → (s.seq.ops.find? fun o => o.id = w.id) = some o →
    o.thread = t → w.id ≠ 0 → o.writes = [] →
    ∃ m : State, exec (.journalWaitLimit t) s = .next m.proceed ∧ (∀ x ∈ m.seq.jwaits, x.id ≠ w.id) ∧
      (∀ x ∈ m.seq.ops, x.id ≠ w.id) ∧
      (∀ q : Reg, (s.thr t).rf.waitsFor q w.id → m.reg t q = constWord (BitVec.ofNat 64 (s.notFinal w))) ∧ SameMemory s m

/-- R373 to R378, Table 14.6: a keyed instruction whose descriptor meets no problem of Table 14.6 starts. GCMSEAL answers 0x01 and
uses its slot once; GCMOPEN uses its slot once and answers 0x01 exactly where the tag verifies; IDSIGN AGREE answers 0x01
exactly where the point lies on the curve, and IDSIGN SIGN answers 0x01; RANDOM erases a slot, and draws bits or a key only
while the source is healthy. -/
def Obligations.KeyedInstructions : Prop :=
  (∀ (t : Thread) (f : FmtC) (s : State) (a : Nat) (k : KeySlot),
    a = (dataOf (s.reg t f.wa)).toNat → f.wb = 0 → f.imm8 = 0 →
    s.runs t (encC 0x32 0x10 f) [f.wa] true = true → s.unitFree .aes = true →
    s.rangeFault a 64 true = none → s.overlaps t a 64 = false → s.gcmProblems (s.gcmDesc a) true = [] →
    ((s.gcmDesc a).ranges true).all (fun r => !s.overlaps t r.1 r.2) = true → s.unitPending t a 64 = false →
    s.unitPending t (s.gcmDesc a).dst (s.gcmDesc a).len = false → s.sec.slots[(s.gcmDesc a).slot] = some k →
    ∃ n, exec (.gcmseal t f) s = .next n ∧ KeepsRegs s n t [f.wd] ∧ StartsOp s n t .aes true [f.wd] [constWord 1] ∧
      n.sec.slots[(s.gcmDesc a).slot] = some { k with uses := k.uses + 1 }) ∧
  (∀ (t : Thread) (f : FmtC) (s : State) (a : Nat) (k : KeySlot),
    a = (dataOf (s.reg t f.wa)).toNat → f.wb = 0 → f.imm8 = 0 →
    s.runs t (encC 0x32 0x11 f) [f.wa] true = true → s.unitFree .aes = true →
    s.rangeFault a 64 true = none → s.overlaps t a 64 = false → s.gcmProblems (s.gcmDesc a) false = [] →
    ((s.gcmDesc a).ranges false).all (fun r => !s.overlaps t r.1 r.2) = true →
    s.unitPending t (s.gcmDesc a).dst (s.gcmDesc a).len = false → s.sec.slots[(s.gcmDesc a).slot] = some k →
    (s.gcmDesc a).dest ≠ 1 →
    ∃ n, exec (.gcmopen t f) s = .next n ∧ KeepsRegs s n t [f.wd] ∧
      StartsOp s n t .aes true [f.wd]
        [constWord (if gcmTag (aesKeys k.bytes) (s.unitBytes (a + 24) 12)
            (s.unitBytes (s.gcmDesc a).aad (s.gcmDesc a).aadLen) (s.unitBytes (s.gcmDesc a).src (s.gcmDesc a).len) =
          s.unitBytes (a + 40) 16 then 1 else 0)] ∧
      n.sec.slots[(s.gcmDesc a).slot] = some { k with uses := k.uses + 1 }) ∧
  (∀ (t : Thread) (f : FmtC) (s : State) (a : Nat),
    a = (dataOf (s.reg t f.wa)).toNat → f.wb = 0 → f.imm8 = 0 →
    s.runs t (encC 0x32 0x12 f) [f.wa] true = true → s.unitFree .ec = true →
    s.rangeFault a 152 true = none → s.overlaps t a 152 = false → s.identityUsable = true → s.descBits a 0 5 59 = 0 →
    s.unitPending t a 152 = false →
    (s.descBits a 0 0 2 = 1 → (descWords a 19).all (fun w => isGood (s.res.deliver w)) = true →
      ∃ n, exec (.idsignAgree t f) s = .next n ∧ KeepsRegs s n t [f.wd] ∧
        StartsOp s n t .ec true [f.wd] [constWord (if p384On (s.idField a 8) (s.idField a 56) then 1 else 0)]) ∧
    (s.descBits a 0 0 2 = 0 → (descWords a 19).all (fun w => isGood (s.res.deliver w)) = true →
      ∃ n, exec (.idsignSign t f) s = .next n ∧ KeepsRegs s n t [f.wd] ∧
        StartsOp s n t .ec true [f.wd] [constWord (if Config.healthy s.free then 0x01 else 0x15)])) ∧
  (∀ (t : Thread) (f : FmtC) (s : State),
    f.wb = 0 → f.imm8 = 0 → s.runs t (encC 0x32 0x13 f) [f.wa] true = true → s.unitFree .rng = true →
    ((dataOf (s.reg t f.wa)).extractLsb' 3 2 = 0 →
      ∃ n, exec (.randomBits t f) s = .next n ∧ KeepsRegs s n t [f.wd] ∧ n.sec.slots = s.sec.slots ∧ n.free = s.free + 1 ∧
        StartsOp s n t .rng true [f.wd]
          [if Config.healthy s.free then constWord (Config.freeBits s.free) else emptyWord]) ∧
    ((dataOf (s.reg t f.wa)).extractLsb' 3 2 = 1 →
      ∃ n, exec (.randomLoadSlot t f) s = .next n ∧ KeepsRegs s n t [f.wd] ∧
        StartsOp s n t .rng true [f.wd] [constWord (if Config.healthy s.free then 0x01 else 0x15)] ∧
        (Config.healthy s.free = false → n.sec.slots = s.sec.slots)) ∧
    ((dataOf (s.reg t f.wa)).extractLsb' 3 2 = 2 →
      ∃ n, exec (.randomEraseSlot t f) s = .next n ∧ KeepsRegs s n t [f.wd] ∧
        StartsOp s n t .rng true [f.wd] [constWord 1] ∧ n.sec.slots[Fin.ofNat 8 (dataOf (s.reg t f.wa)).toNat] = none))

/-! ### Riffle engines (Chapter 11) -/

/-- R284, R299 to R302, Table 11.3: a channel in its turn carries out its instruction: the branch, the wait, the loop, the load of a
counter, EMIT, SAMPLE, TAKE, GIVE, XFER, DRIVE, SIG and PAUSE with the legal fields of Table 11.3, on its own work and its
engine's flags, and nothing of any other channel. -/
def Obligations.RiffleTurns : Prop :=
  ∀ (g : ChanNo) (f : BitVec 28) (balls : BitVec 32) (s : State) (c : RChan) (e : REng),
    s.clocked = true → c = s.chans[g] → e = s.engines[engOf g] →
    (∀ v, s.hasTurn g (0x1#4 ++ f) = true → f.extractLsb' 7 13 = 0 → (f.getLsbD 20 && f.extractLsb' 21 7 == 0) = false →
      s.cond c e (s.ballsRead balls) (f.extractLsb' 21 7).toNat = some v →
      ∃ n, exec (.br g f balls) s = .next n ∧
        TurnsTo s n g { c with pc := if v != f.getLsbD 20 then f.setWidth 7 else c.pc + 1 } e.flags) ∧
    (∀ v, s.hasTurn g (0x2#4 ++ f) = true → f.extractLsb' 0 19 = 0 → (f.getLsbD 20 && f.extractLsb' 21 7 == 0) = false →
      (f.getLsbD 19 = true → f.getLsbD 20 = false ∧ 0x10 ≤ (f.extractLsb' 21 7).toNat ∧ (f.extractLsb' 21 7).toNat ≤ 0x17) →
      s.cond c e (s.ballsRead balls) (f.extractLsb' 21 7).toNat = some v →
      ∃ n, exec (.await g f balls) s = .next n ∧
        TurnsTo s n g { c with pc := if v != f.getLsbD 20 then c.pc + 1 else c.pc }
          (if f.getLsbD 19 && v then setBit e.flags ((f.extractLsb' 21 7).toNat - 0x10) false else e.flags)) ∧
    (s.hasTurn g (0x3#4 ++ f) = true → f.extractLsb' 7 20 = 0 →
      ∃ n, exec (.loop g f balls) s = .next n ∧
        TurnsTo s n g
          (if f.getLsbD 27 then { c with c1 := c.c1 - 1, pc := if c.c1 = 1 then c.pc + 1 else f.setWidth 7 }
            else { c with c0 := c.c0 - 1, pc := if c.c0 = 1 then c.pc + 1 else f.setWidth 7 }) e.flags) ∧
    (s.hasTurn g (0x4#4 ++ f) = true → f.extractLsb' 16 11 = 0 →
      ∃ n, exec (.ldc g f balls) s = .next n ∧
        TurnsTo s n g
          (if f.getLsbD 27 then { c with c1 := f.setWidth 16, pc := c.pc + 1 }
            else { c with c0 := f.setWidth 16, pc := c.pc + 1 }) e.flags) ∧
    (s.hasTurn g (0x5#4 ++ f) = true → f.extractLsb' 7 20 = 0 → 1 ≤ (f.setWidth 7).toNat → (f.setWidth 7).toNat ≤ 64 →
      ∃ n, exec (.emit g f balls) s = .next n ∧
        TurnsTo s n g { (c.emit (f.getLsbD 27) (f.setWidth 7).toNat) with pc := c.pc + 1 } e.flags) ∧
    (s.hasTurn g (0x6#4 ++ f) = true → f.extractLsb' 7 21 = 0 → 1 ≤ (f.setWidth 7).toNat → (f.setWidth 7).toNat ≤ 64 →
      ∃ n, exec (.sample g f balls) s = .next n ∧
        TurnsTo s n g { (c.sample (s.ballsRead balls) (f.setWidth 7).toNat) with pc := c.pc + 1 } e.flags) ∧
    (s.hasTurn g (0x7#4 ++ f) = true → f.extractLsb' 0 27 = 0 →
      ∃ n, exec (.take g f balls) s = .next n ∧
        (∀ w r, c.txq = w :: r → TurnsTo s n g { c with tf := dataOf w, tp := 0, txq := r, pc := c.pc + 1 } e.flags) ∧
        (c.txq = [] → TurnsTo s n g (if f.getLsbD 27 then c else { c with tf := BitVec.allOnes 64, tp := 0, pc := c.pc + 1 }) e.flags)) ∧
    (s.hasTurn g (0x8#4 ++ f) = true → f.extractLsb' 0 26 = 0 →
      ∃ n, exec (.give g f balls) s = .next n ∧
        (c.rxq.length < c.rxDepth →
          TurnsTo s n g { c with rxq := c.rxq ++ [mkWord (mkTag 7 (BitVec.ofNat 2 (s.lev 6)) true false) (c.given (f.getLsbD 26))], rf := 0, rp := 0,
                                 pc := c.pc + 1 } e.flags) ∧
        (c.rxDepth ≤ c.rxq.length →
          TurnsTo s n g (if f.getLsbD 27 then c else { c with rf := 0, rp := 0, pc := c.pc + 1 }) e.flags)) ∧
    (s.hasTurn g (0x8#4 ++ f) = true → f.extractLsb' 0 25 = 0 → f.extractLsb' 25 2 = 1 → c.rxq.length < c.rxDepth →
      ∃ n, exec (.giveStamp g f balls) s = .next n ∧
        TurnsTo s n g { c with rxq := c.rxq ++ [mkWord (mkTag 7 (BitVec.ofNat 2 (s.lev 6)) (!s.timeFenced) false) s.time.now], pc := c.pc + 1 } e.flags) ∧
    (s.hasTurn g (0x9#4 ++ f) = true → f.extractLsb' 0 20 = 0 → f.extractLsb' 25 3 ≠ 7 → f.extractLsb' 20 2 ≠ 3 →
      ∃ n, exec (.xfer g f balls) s = .next n ∧
        TurnsTo s n g (c.xferDst (f.extractLsb' 25 3).toNat
          (xferOp (f.extractLsb' 20 2).toNat (c.xferSrc (s.ballsRead balls) (f.extractLsb' 22 3).toNat))) e.flags) ∧
    (s.hasTurn g (0xA#4 ++ f) = true → f.extractLsb' 16 11 = 0 → f.getLsbD 27 = false →
      ∃ n, exec (.driveVal g f balls) s = .next n ∧
        TurnsTo s n g { (c.drive false (f.extractLsb' 8 8) (f.setWidth 8)) with pc := c.pc + 1 } e.flags) ∧
    (s.hasTurn g (0xA#4 ++ f) = true → f.extractLsb' 16 11 = 0 → f.getLsbD 27 = true →
      ∃ n, exec (.driveEn g f balls) s = .next n ∧
        TurnsTo s n g { (c.drive true (f.extractLsb' 8 8) (f.setWidth 8)) with pc := c.pc + 1 } e.flags) ∧
    (s.hasTurn g (0xB#4 ++ f) = true → f.extractLsb' 3 25 = 0 →
      ∃ n, exec (.sigRaise g f balls) s = .next n ∧
        TurnsTo s n g { c with pc := c.pc + 1 } (setBit e.flags (f.setWidth 3).toNat true)) ∧
    (s.hasTurn g (0xB#4 ++ f) = true → f.extractLsb' 3 23 = 0 → f.extractLsb' 26 2 = 1 →
      ∃ n, exec (.sigLower g f balls) s = .next n ∧
        TurnsTo s n g { c with pc := c.pc + 1 } (setBit e.flags (f.setWidth 3).toNat false)) ∧
    (s.hasTurn g (0xC#4 ++ f) = true → f.extractLsb' 8 20 = 0 →
      ∃ n, exec (.pause g f balls) s = .next n ∧
        (c.turns.getD (f.setWidth 8).toNat = 0 → TurnsTo s n g { c with pc := c.pc + 1 } e.flags ∧ n.chans[g].turns = none) ∧
        ∀ k, c.turns.getD (f.setWidth 8).toNat = k + 1 → TurnsTo s n g c e.flags ∧ n.chans[g].turns = some k)

/-- R303: an illegal opcode (0x0, 0xD to 0xF) in a channel's turn stops the channel with FAULT set and its PC kept; without STOPHOLD
its enables clear. -/
def Obligations.RiffleFaults : Prop :=
  ∀ (g : ChanNo) (w : BitVec 32) (s : State),
    s.clocked = true → s.hasTurn g w = true → (w.extractLsb' 28 4 = 0 ∨ 13 ≤ (w.extractLsb' 28 4).toNat) →
    ∃ n, exec (.riffleIllegal g w) s = .next n ∧ n.chans[g].faulted = true ∧ n.chans[g].flags.getLsbD 6 = true ∧
      n.chans[g].pc = s.chans[g].pc ∧ (s.chans[g].cfg.stopHold = false → n.chans[g].ens = 0) ∧
      (∀ h, h ≠ g → n.chans[h].work = s.chans[h].work) ∧ n.res = s.res

/-- R284, R296, R308, R423: while the engine runs on its clock, MIRROR_OP_APPLY takes its oldest queue operation to its channel's
queue; RIFCHAN_TAKE_EFFECT in the channel's slot puts the last of its waiting configurations in force and starts or stops the
channel, its queues kept. -/
def Obligations.RiffleQueuesAndChanges : Prop :=
  (∀ (e : EngNo) (s : State) (g : ChanNo) (w : Word) (r : List QueueOp),
    s.clocked = true → s.engines[e].running = true → s.engines[e].ops = .push g w :: r → s.chans[g].txq.length < s.chans[g].txDepth →
    ∃ n, exec (.mirrorOpApply e) s = .next n ∧ n.engines[e].ops = r ∧ n.chans[g].txq = s.chans[g].txq ++ [w] ∧
      n.chans[g].rxq = s.chans[g].rxq ∧ (∀ h, h ≠ g → n.chans[h] = s.chans[h]) ∧ n.res = s.res) ∧
  (∀ (e : EngNo) (s : State) (g : ChanNo) (r : List QueueOp),
    s.clocked = true → s.engines[e].running = true → s.engines[e].ops = .pop g :: r →
    ∃ n, exec (.mirrorOpApply e) s = .next n ∧ n.engines[e].ops = r ∧ n.chans[g].rxq = s.chans[g].rxq.tail ∧
      n.chans[g].txq = s.chans[g].txq ∧ (∀ h, h ≠ g → n.chans[h] = s.chans[h]) ∧ n.res = s.res) ∧
  (∀ (g : ChanNo) (s : State) (k : RCfg),
    s.clocked = true → s.slotDue g = true → s.chans[g].change.getLast? = some k →
    ∃ n, exec (.rifchanTakeEffect g) s = .next n ∧ n.chans[g].cfg = k ∧ n.chans[g].change = [] ∧
      n.chans[g].faulted = false ∧ n.chans[g].txq = s.chans[g].txq ∧ n.chans[g].rxq = s.chans[g].rxq ∧
      (k.enable = true → n.chans[g].pc = k.entry ∧ n.chans[g].c0 = 0 ∧ n.chans[g].tp = 64 ∧ n.chans[g].rp = 0) ∧
      (k.enable = false → k.stopHold = false → n.chans[g].ens = 0) ∧ n.res = s.res)

/-! ### Field pins and the Gauge (Chapter 12) -/

/-- R311 to R314, R316, R318, R319, Table 12.2, Table 12.3: the protection of FP and LP pins. Only a pin that pulls low reaches LIMIT;
a SHORT flags the pin, its winning channel and the FIELD event; a turn-off follows the pin's policy; backoff ends, and
starts over after a second without limit onset; a readback that differs from the drive flags the channel; a contending LP
pin is flagged and then released. -/
def Obligations.FieldPins : Prop :=
  (∀ (i : Fin 16) (s : State), s.fpPulls i = true → s.field.fp[i].prot = .normal →
    ∃ n, exec (.limitOnset i) s = .next n ∧ n.field.fp[i] = { s.field.fp[i] with prot := .limit } ∧
      (∀ j, j ≠ i → n.field.fp[j] = s.field.fp[j]) ∧ { n with field := s.field } = s) ∧
  (∀ (i : Fin 16) (s : State), s.field.fp[i].prot = .limit →
    ∃ n, exec (.limitEnd i) s = .next n ∧ n.field.fp[i] = { s.field.fp[i] with prot := .normal } ∧
      (∀ j, j ≠ i → n.field.fp[j] = s.field.fp[j]) ∧ { n with field := s.field } = s) ∧
  (∀ (i : Fin 16) (s : State), s.field.fp[i].prot = .limit →
    ∃ n, exec (.shortFlag i) s = .next n ∧ n.field.fp[i] = { s.field.fp[i] with short := true } ∧
      count 3 n.field.cnt = count 3 s.field.cnt + 1 ∧
      (∀ g, s.winner i.val = some g → n.chans[g].flags = s.chans[g].flags ||| 0x10) ∧
      (s.clocked = false → n.seq.sticky = s.seq.sticky ||| evField) ∧ n.res = s.res) ∧
  (∀ (i : Fin 16) (s : State), s.field.fp[i].prot = .limit →
    ∃ n, exec (.turnOff i) s = .next n ∧ n.field.fp[i].turnOffs = s.field.fp[i].turnOffs + 1 ∧
      n.field.fp[i].prot =
        (if s.fpPolicy i = 1 ∨ (s.fpPolicy i = 2 ∧ 7 ≤ s.field.fp[i].turnOffs + 1) then .latched else .off) ∧
      (s.fpPolicy i ≠ 1 → n.field.fp[i].backoff = min (2 * s.field.fp[i].backoff) 64) ∧
      count 4 n.field.cnt = count 4 s.field.cnt + 1 ∧ n.res = s.res) ∧
  (∀ (i : Fin 16) (s : State), s.field.fp[i].prot = .off →
    ∃ n, exec (.backoffEnd i) s = .next n ∧ n.field.fp[i] = { s.field.fp[i] with prot := .normal } ∧
      { n with field := s.field } = s) ∧
  (∀ (i : Fin 16) (s : State), s.field.fp[i].prot ≠ .limit →
    ∃ n, exec (.backoffReset i) s = .next n ∧ n.field.fp[i] = { s.field.fp[i] with backoff := 1, turnOffs := 0 } ∧
      { n with field := s.field } = s) ∧
  (∀ (i : Fin 16) (ball : Bool) (s : State) (g : ChanNo), s.field.fp[i].readback = some g →
    ∃ n, exec (.readbackSample i ball) s = .next n ∧ n.field.fp[i].readback = none ∧ n.res = s.res ∧
      (s.field.fpOn = true → s.chans[g].cfg.rbCheck = true → ball = s.fpLow i.val →
        n.chans[g].flags = s.chans[g].flags ||| 0x04 ∧ count 5 n.field.cnt = count 5 s.field.cnt + 1) ∧
      (s.field.fpOn = false ∨ s.chans[g].cfg.rbCheck = false ∨ ball ≠ s.fpLow i.val →
        n.chans = s.chans ∧ n.field.cnt = s.field.cnt)) ∧
  (∀ (i : Fin 16) (s : State), (s.lpDrives i).isSome = true →
    ∃ n, exec (.lpContention i) s = .next n ∧ n.field.lp[i].contending = true ∧ n.field.lp[i].off = s.field.lp[i].off ∧
      count 6 n.field.cnt = count 6 s.field.cnt + 1 ∧ n.res = s.res) ∧
  (∀ (i : Fin 16) (s : State), (s.lpDrives i).isSome = true → s.field.lp[i].contending = true →
    ∃ n, exec (.lpRelease i) s = .next n ∧ n.field.lp[i] = { off := true, contending := false } ∧
      { n with field := s.field } = s)

/-! ### Set-up instructions (Chapters 1, 3, 8, 10, 11, 13, 14) -/

/-- Table 3.13, R68, R237, R242, Table 3.14: WIN with nothing at fault defines its window, with DIR = 00 it closes it; ROUTE enables or
removes the route of its port, level and direction, and a removed or replaced DIR = 1 route releases its line. No other
window or route, no register and no byte of memory changes. -/
def Obligations.WindowsAndRoutes : Prop :=
  (∀ (t : Thread) (f : FmtS) (s : State) (a b : Data),
    a = dataOf (s.reg t f.wa) → b = dataOf (s.reg t f.wb) → operandsOnly f = true → s.setsUp t 0x3B f [f.wa, f.wb] →
    (bitsAt b 52 2 = 0 →
      ∃ n, exec (.winClose t f) s = .next n ∧ aget (bitsAt b 24 8) n.windows = none ∧
        (∀ k, k ≠ bitsAt b 24 8 → aget k n.windows = aget k s.windows) ∧ GoesOn s n t ∧
        OnlyThread t (s.fetchCorrect t) { n with windows := s.windows }) ∧
    (bitsAt b 52 2 ≠ 0 → s.winAbsent b = none → s.winFault f a b = none →
      ∃ n, exec (.win t f) s = .next n ∧ aget (bitsAt b 24 8) n.windows = some (winOf a b) ∧
        (∀ k, k ≠ bitsAt b 24 8 → aget k n.windows = aget k s.windows) ∧ GoesOn s n t ∧
        OnlyThread t (s.fetchCorrect t) { n with windows := s.windows })) ∧
  (∀ (t : Thread) (f : FmtS) (s : State) (a b : Data),
    a = dataOf (s.reg t f.wa) → b = dataOf (s.reg t f.wb) → operandsOnly f = true → s.setsUp t 0x3C f [f.wa, f.wb] →
    s.routeAbsent a = none → s.routeFault f a b = none →
    (a.getLsbD 15 = true →
      ∃ n, exec (.route t f) s = .next n ∧
        aget (16 * bitsAt a 3 2 + 2 * bitsAt a 0 3 + bitsAt a 5 1) n.routes =
          some { mxport := Fin.ofNat 2 (bitsAt a 6 1), vector := a.extractLsb' 7 8, isLocal := a.getLsbD 16,
                 addr := b.extractLsb' 0 48 } ∧
        (∀ k, k ≠ 16 * bitsAt a 3 2 + 2 * bitsAt a 0 3 + bitsAt a 5 1 → aget k n.routes = aget k s.routes) ∧ GoesOn s n t ∧
        { n with seq := s.seq, res := s.res, routes := s.routes, pb := s.pb } = s) ∧
    (a.getLsbD 15 = false →
      ∃ n, exec (.routeRemove t f) s = .next n ∧
        aget (16 * bitsAt a 3 2 + 2 * bitsAt a 0 3 + bitsAt a 5 1) n.routes = none ∧
        (∀ k, k ≠ 16 * bitsAt a 3 2 + 2 * bitsAt a 0 3 + bitsAt a 5 1 → aget k n.routes = aget k s.routes) ∧ GoesOn s n t ∧
        (bitsAt a 5 1 = 1 → (aget (16 * bitsAt a 3 2 + 2 * bitsAt a 0 3 + 1) s.routes).isSome = true →
          ∀ g : PbNo, g.val = bitsAt a 3 2 → (n.pb[g].pins.irqLow).getLsbD (bitsAt a 0 3) = false ∧
            (n.pb[g].irqRec).getLsbD (bitsAt a 0 3) = false) ∧
        (bitsAt a 5 1 = 0 → n.pb = s.pb) ∧ { n with seq := s.seq, res := s.res, routes := s.routes, pb := s.pb } = s))

/-- Table 3.15, R253, Table 14.5, R364: ADMIT defines its class of its port with a full bucket of DEPTH cycles, with DEPTH 0 and
RATE 0 it undefines it; LEVRULE enables or removes its source rule. No other class, port or rule, no register and no byte
of memory changes. -/
def Obligations.ClassesAndSourceRules : Prop :=
  (∀ (t : Thread) (f : FmtS) (s : State) (a b : Data) (g : PbNo) (c : Fin 8),
    a = dataOf (s.reg t f.wa) → b = dataOf (s.reg t f.wb) → operandsOnly f = true → s.setsUp t 0x3D f [f.wa, f.wb] →
    g.val = bitsAt a 0 2 → c.val = bitsAt a 2 3 → s.admitAbsent a = none →
    (bitsAt b 0 24 = 0 →
      ∃ n, exec (.admitUndefine t f) s = .next n ∧ n.pb[g].classes[c] = none ∧
        (∀ d, d ≠ c → n.pb[g].classes[d] = s.pb[g].classes[d]) ∧ (∀ h, h ≠ g → n.pb[h] = s.pb[h]) ∧ GoesOn s n t ∧
        OnlyThread t (s.fetchCorrect t) { n with pb := s.pb }) ∧
    (bitsAt b 0 24 ≠ 0 → admitFault f a b = none →
      ∃ n, exec (.admitClass t f) s = .next n ∧
        n.pb[g].classes[c] =
          some { refuse := bitsAt a 5 2 == 1, deny := a.getLsbD 7, prio := a.extractLsb' 8 3, origin := a.extractLsb' 11 4,
                 anyOrigin := a.getLsbD 15, minTrust := a.extractLsb' 16 2, rate := b.extractLsb' 0 16,
                 depth := b.extractLsb' 16 8, hintCap := b.extractLsb' 24 16, bucket := 1000 * bitsAt b 16 8 } ∧
        (∀ d, d ≠ c → n.pb[g].classes[d] = s.pb[g].classes[d]) ∧ (∀ h, h ≠ g → n.pb[h] = s.pb[h]) ∧ GoesOn s n t ∧
        OnlyThread t (s.fetchCorrect t) { n with pb := s.pb })) ∧
  (∀ (t : Thread) (f : FmtS) (s : State) (a b : Data),
    a = dataOf (s.reg t f.wa) → b = dataOf (s.reg t f.wb) → operandsOnly f = true → s.setsUp t 0x3E f [f.wa, f.wb] →
    s.levruleAbsent a = none →
    (a.getLsbD 5 = true → bitsAt a 6 2 ≠ 0 → bitsAt b 0 16 ≤ bitsAt b 16 16 →
      ∃ n, exec (.levrule t f) s = .next n ∧
        aget (bitsAt a 0 5) n.rules =
          some { onMx0 := a.getLsbD 6, onMx1 := a.getLsbD 7, trust := a.extractLsb' 8 2, read := a.getLsbD 10,
                 write := a.getLsbD 11, keepOrigin := a.getLsbD 12, srcLo := b.extractLsb' 0 16,
                 srcHi := b.extractLsb' 16 16 } ∧
        (∀ k, k ≠ bitsAt a 0 5 → aget k n.rules = aget k s.rules) ∧ GoesOn s n t ∧
        OnlyThread t (s.fetchCorrect t) { n with rules := s.rules }) ∧
    (a.getLsbD 5 = false →
      ∃ n, exec (.levruleRemove t f) s = .next n ∧ aget (bitsAt a 0 5) n.rules = none ∧
        (∀ k, k ≠ bitsAt a 0 5 → aget k n.rules = aget k s.rules) ∧ GoesOn s n t ∧
        OnlyThread t (s.fetchCorrect t) { n with rules := s.rules }))

/-- R69, R298, R307, R308: RIFLOAD copies the low halves of COUNT source words into its stopped engine's store from START on;
RIFCHAN gives its channel the fields at once on a stopped engine, and on a running one leaves them to the channel's next
slot. No other store word, channel, register or byte of memory changes. -/
def Obligations.RiffleSetup : Prop :=
  (∀ (t : Thread) (f : FmtS) (s : State) (a b : Data) (e : EngNo),
    a = dataOf (s.reg t f.wa) → b = dataOf (s.reg t f.wb) → operandsOnly f = true → s.setsUp t 0x34 f [f.wa, f.wb] →
    e.val = bitsAt a 0 2 → rifloadRange f a b = none → s.overlaps t b.toNat (8 * bitsAt a 9 8) = false →
    (∀ i, i < bitsAt a 9 8 → badStoreWord (s.res.deliver (b.toNat / 8 + i)) = false) → s.engines[e].running = false →
    ∃ n, exec (.rifload t f) s = .next n ∧
      (∀ i : Fin 128, bitsAt a 2 7 ≤ i.val → i.val < bitsAt a 2 7 + bitsAt a 9 8 →
        n.engines[e].store[i] = (dataOf (s.res.deliver (b.toNat / 8 + (i.val - bitsAt a 2 7)))).extractLsb' 0 32) ∧
      (∀ i : Fin 128, ¬ (bitsAt a 2 7 ≤ i.val ∧ i.val < bitsAt a 2 7 + bitsAt a 9 8) →
        n.engines[e].store[i] = s.engines[e].store[i]) ∧
      (∀ h, h ≠ e → n.engines[h] = s.engines[h]) ∧ GoesOn s n t ∧
      { n with seq := s.seq, res := s.res, engines := s.engines } = s) ∧
  (∀ (t : Thread) (f : FmtS) (s : State) (a b : Data) (g : ChanNo),
    a = dataOf (s.reg t f.wa) → b = dataOf (s.reg t f.wb) → operandsOnly f = true → s.setsUp t 0x35 f [f.wa, f.wb] →
    g.val = bitsAt a 0 6 → s.rifchanFault f a (rcfgOf b) = none →
    (s.engines[engOf g].running = false →
      ∃ n, exec (.rifchan t f) s = .next n ∧ n.chans[g].cfg = rcfgOf b ∧ n.chans[g].change = s.chans[g].change ∧
        n.chans[g].faulted = false ∧ (b.getLsbD 7 = false → b.getLsbD 48 = false → n.chans[g].ens = 0) ∧
        (∀ h, h ≠ g → n.chans[h].work = s.chans[h].work ∧ n.chans[h].cfg = s.chans[h].cfg) ∧ GoesOn s n t ∧
        { n with seq := s.seq, res := s.res, chans := s.chans, mirror := s.mirror, field := s.field } = s) ∧
    (s.engines[engOf g].running = true → (s.chans[g].latest.enable = false ∨ b.getLsbD 7 = false) →
      ∃ n, exec (.rifchan t f) s = .next n ∧ n.chans[g] = { s.chans[g] with change := s.chans[g].change ++ [rcfgOf b] } ∧
        (∀ h, h ≠ g → n.chans[h] = s.chans[h]) ∧ GoesOn s n t ∧ OnlyThread t (s.fetchCorrect t) { n with chans := s.chans }))

/-- R70, R332, R349, R71, R335: GROUPJOIN gives the member its identity from its operands, fenced as long as no view with quorum
holds it; GROUPLEAVE ends the membership and every port's enable, whose record stays; PORT ENABLE and PORT DISABLE switch
the FP and LP groups and, outside a group, a Parene port and its record. -/
def Obligations.MembershipAndPorts : Prop :=
  (∀ (t : Thread) (f : FmtS) (s : State) (a b : Data),
    a = dataOf (s.reg t f.wa) → b = dataOf (s.reg t f.wb) → operandsOnly f = true → s.setsUp t 0x36 f [f.wa, f.wb] →
    s.joinFault f a b = none →
    ∃ n, exec (.groupjoin t f) s = .next n ∧ n.group.joined = true ∧ n.group.index = a.extractLsb' 0 2 ∧
      n.group.n1 = a.extractLsb' 2 2 ∧ n.group.prio = a.extractLsb' 4 4 ∧ n.group.gaddr = b.extractLsb' 0 48 ∧
      n.group.gid = b.extractLsb' 48 16 ∧ (n.thr t).ia = s.iaOf t + 1) ∧
  (∀ (t : Thread) (f : FmtS) (s : State),
    f.wa = 0 → f.wb = 0 → f.sub = 0 → f.inst = 0 → f.sx = 1 → s.setsUp t 0x36 f [] → s.group.joined = true →
    ∃ n, exec (.groupleave t f) s = .next n ∧ n.group.joined = false ∧ n.group.view = 0 ∧ (n.thr t).ia = s.iaOf t + 1 ∧
      ∀ g : PbNo, n.pb[g].recorded = s.pb[g].recorded ∧ (s.pb[g].enabled = true → n.pb[g].enabled = false)) ∧
  (∀ (t : Thread) (f : FmtS) (s : State),
    f.wa = 0 → f.wb = 0 → f.sub = 0 → s.setsUp t 0x37 f [] →
    (f.inst = 4 →
      (f.sx = 1 → ∃ n, exec (.portEnable t f) s = .next n ∧ GoesOn s n t ∧ n.field = { s.field with fpOn := true } ∧
        OnlyThread t (s.fetchCorrect t) { n with field := s.field }) ∧
      (f.sx = 0 → ∃ n, exec (.portDisable t f) s = .next n ∧ GoesOn s n t ∧ n.field.fpOn = false ∧
        (s.field.fpOn = true → ∀ i : Fin 16, n.field.fp[i].prot = .normal ∧ n.field.fp[i].short = false) ∧
        n.field.lp = s.field.lp ∧ OnlyThread t (s.fetchCorrect t) { n with field := s.field })) ∧
    (f.inst = 5 →
      (f.sx = 1 → ∃ n, exec (.portEnable t f) s = .next n ∧ GoesOn s n t ∧ n.field = { s.field with lpOn := true } ∧
        OnlyThread t (s.fetchCorrect t) { n with field := s.field }) ∧
      (f.sx = 0 → ∃ n, exec (.portDisable t f) s = .next n ∧ GoesOn s n t ∧ n.field.lpOn = false ∧
        (s.field.lpOn = true → ∀ i : Fin 16, n.field.lp[i] = { off := false, contending := false }) ∧
        n.field.fp = s.field.fp ∧ OnlyThread t (s.fetchCorrect t) { n with field := s.field })) ∧
    (∀ g : PbNo, f.inst.toNat = g.val → s.hasPb g.val = true → s.group.joined = false →
      (f.sx = 1 → s.pb[g].enabled = false →
        ∃ n, exec (.portEnable t f) s = .next n ∧ GoesOn s n t ∧ n.pb[g].enabled = true ∧ n.pb[g].recorded = true ∧
          ∀ h, h ≠ g → n.pb[h] = s.pb[h]) ∧
      (f.sx = 0 → s.pb[g].recorded = true →
        ∃ n, exec (.portDisable t f) s = .next n ∧ n.pb[g].enabled = false ∧ n.pb[g].recorded = false ∧
          (n.thr t).ia = s.iaOf t + 1)))

/-- R7, R9, R10, R11, R72, R73: a profile instruction selects its code for every instance that INST names and gives a locked one
every field of the profile; an unlocked one keeps its fields. EXPERT ON unlocks, EXPERT OFF locks again and gives every field
its value under the selected profile. No other instance changes. -/
def Obligations.ProfilesAndExpertMode : Prop :=
  (∀ row ∈ profileRows, ∀ (t : Thread) (f : FmtS) (s : State) (code : Nat) (l : Assoc (BitVec 64)) (is : List Nat),
    f.wa = 0 → f.wb = 0 → f.sub = BitVec.ofNat 4 row.2.code → f.sx = BitVec.ofNat 13 code → code < 64 →
    profileFields row.2 code = some l → s.instances row.2 f.inst.toNat = some is → s.subAbsent row.2 f.inst.toNat = none →
    s.setsUp t 0x38 f [] →
    (∀ i ∈ is, (s.sub row.2 i).unlocked = true ∨ s.mayChange row.2 (s.sub row.2 i).fields l none = true) →
    ∃ n, exec (row.1 t f) s = .next n ∧ GoesOn s n t ∧
      (∀ i ∈ is, (n.sub row.2 i).profile = code ∧ (n.sub row.2 i).unlocked = (s.sub row.2 i).unlocked ∧
        (n.sub row.2 i).fields = if (s.sub row.2 i).unlocked then (s.sub row.2 i).fields else l) ∧
      ∀ k : Fin 22, (∀ i ∈ is, k ≠ subIdx row.2 i) → n.subs[k] = s.subs[k]) ∧
  (∀ (t : Thread) (f : FmtS) (s : State) (u : Sub) (is : List Nat),
    f.wa = 0 → f.wb = 0 → Sub.ofCode f.sub.toNat = some u → s.instances u f.inst.toNat = some is →
    s.subAbsent u f.inst.toNat = none → s.setsUp t 0x39 f [] →
    (f.sx = 1 →
      ∃ n, exec (.expertOn t f) s = .next n ∧ GoesOn s n t ∧
        (∀ i ∈ is, n.sub u i = { s.sub u i with unlocked := true }) ∧
        (∀ k : Fin 22, (∀ i ∈ is, k ≠ subIdx u i) → n.subs[k] = s.subs[k]) ∧
        OnlyThread t (s.fetchCorrect t) { n with subs := s.subs }) ∧
    (f.sx = 0 → (∀ i ∈ is, s.mayLock u i = true) →
      ∃ n, exec (.expertOff t f) s = .next n ∧ GoesOn s n t ∧
        (∀ i ∈ is, (n.sub u i).unlocked = false ∧ (n.sub u i).profile = (s.sub u i).profile ∧
          (∀ l, (s.sub u i).unlocked = true → profileFields u (s.sub u i).profile = some l → (n.sub u i).fields = l) ∧
          ((s.sub u i).unlocked = false → n.sub u i = s.sub u i)) ∧
        ∀ k : Fin 22, (∀ i ∈ is, k ≠ subIdx u i) → n.subs[k] = s.subs[k]))

/-- R8, R74, R75, R154, R160, R314, R318: XCTL of an unlocked instance gives the named field an admitted value and changes no other
field; RETRAIN sends RETRAIN flits from link up, SCANGO starts the scan that the fields describe, FPCLEAR and LPCLEAR clear
the pins of their mask; XGET gives WA the field's value, a status field's content, or 0 for a field that acts. -/
def Obligations.FieldAccess : Prop :=
  (∀ (t : Thread) (f : FmtS) (s : State) (u : Sub) (k : Nat) (lim : Limit) (v : Data),
    f.wb = 0 → Sub.ofCode f.sub.toNat = some u → f.sx.extractLsb' 0 3 = 0 → f.inst.toNat < u.count →
    s.present u f.inst.toNat = true → (s.sub u f.inst.toNat).unlocked = true → s.setsUp t 0x3A f [f.wa] →
    sxPage f ≠ 15 → k = key (sxPage f) (sxField f) → v = dataOf (s.reg t f.wa) → aget k (fieldLimits u) = some lim →
    lim.admits v = true → (∀ m, lim ≠ .action m) → jointOk u (aset k v (s.sub u f.inst.toNat).fields) = true →
    s.mayChange u (s.sub u f.inst.toNat).fields (aset k v (s.sub u f.inst.toNat).fields) (some k) = true →
    ∃ n, exec (.xctl t f) s = .next n ∧ GoesOn s n t ∧
      n.sub u f.inst.toNat = { s.sub u f.inst.toNat with fields := aset k v (s.sub u f.inst.toNat).fields } ∧
      (∀ j : Fin 22, j ≠ subIdx u f.inst.toNat → n.subs[j] = s.subs[j])) ∧
  (∀ (t : Thread) (f : FmtS) (s : State) (p : MxNo),
    f.wb = 0 → f.sub = 0 → f.sx = 0b0000000101000 → f.inst.toNat = p.val → s.hasMx p.val = true →
    (s.sub .lane p.val).unlocked = true → s.setsUp t 0x3A f [f.wa] → dataOf (s.reg t f.wa) = 1 → s.laneLive p = true →
    s.lanes[p].stage = 7 →
    ∃ n, exec (.retrain t f) s = .next n ∧ GoesOn s n t ∧
      n.lanes[p] = { s.lanes[p] with fomLow := 0, sending := some .retrain } ∧ n.subs = s.subs) ∧
  (∀ (t : Thread) (f : FmtS) (s : State) (p : MxNo),
    f.wb = 0 → f.sub = 0 → f.sx = 0b0100001011000 → f.inst.toNat = p.val → s.hasMx p.val = true →
    (s.sub .lane p.val).unlocked = true → s.setsUp t 0x3A f [f.wa] → dataOf (s.reg t f.wa) = 1 →
    s.scanMay p (s.scanOf p) = true →
    ∃ n, exec (.scango t f) s = .next n ∧ GoesOn s n t ∧
      n.lanes[p] = { s.lanes[p] with scan := some (s.scanOf p), scanStat := 1 } ∧
      OnlyThread t (s.fetchCorrect t) { n with lanes := s.lanes }) ∧
  (∀ (t : Thread) (f : FmtS) (s : State) (v : Data),
    f.wb = 0 → f.sub = 7 → f.sx = 0b0000000010000 → f.inst = 0 → (s.sub .field 0).unlocked = true →
    s.setsUp t 0x3A f [f.wa] → v = dataOf (s.reg t f.wa) → v.toNat < 2 ^ 16 →
    ∃ n, exec (.fpclear t f) s = .next n ∧ GoesOn s n t ∧
      (∀ i : Fin 16, n.field.fp[i] = if v.getLsbD i.val then
        { s.field.fp[i] with prot := .normal, short := false, backoff := 1, turnOffs := 0 } else s.field.fp[i]) ∧
      n.field.lp = s.field.lp ∧ OnlyThread t (s.fetchCorrect t) { n with field := s.field }) ∧
  (∀ (t : Thread) (f : FmtS) (s : State) (v : Data),
    f.wb = 0 → f.sub = 7 → f.sx = 0b0000000011000 → f.inst = 0 → (s.sub .field 0).unlocked = true →
    s.setsUp t 0x3A f [f.wa] → v = dataOf (s.reg t f.wa) → v.toNat < 2 ^ 16 →
    ∃ n, exec (.lpclear t f) s = .next n ∧ GoesOn s n t ∧
      (∀ i : Fin 16, n.field.lp[i] = if v.getLsbD i.val then { off := false, contending := false } else s.field.lp[i]) ∧
      n.field.fp = s.field.fp ∧ OnlyThread t (s.fetchCorrect t) { n with field := s.field }) ∧
  (∀ (t : Thread) (f : FmtS) (s : State) (u : Sub),
    f.wb = 0 → Sub.ofCode f.sub.toNat = some u → f.sx.extractLsb' 0 3 = 1 → f.inst.toNat < u.count →
    s.present u f.inst.toNat = true → s.setsUp t 0x3A f [] →
    (sxPage f = 15 → ∀ d, s.status u f.inst.toNat (sxField f) = some d →
      ∃ n, exec (.xget t f) s = .next n ∧ WritesReg s n t f.wa (constWord (BitVec.ofNat 64 d)) (s.iaOf t + 1)) ∧
    (sxPage f ≠ 15 → ∀ lim, aget (key (sxPage f) (sxField f)) (fieldLimits u) = some lim →
      ∃ n, exec (.xget t f) s = .next n ∧
        ((∀ m, lim ≠ .action m) →
          WritesReg s n t f.wa
            (constWord
              (if u = .group then BitVec.ofNat 64 (s.groupMeans (key (sxPage f) (sxField f))
                  (s.fld .group 0 (key (sxPage f) (sxField f))))
                else (s.sub u f.inst.toNat).get (key (sxPage f) (sxField f))))
            (s.iaOf t + 1)) ∧
        ∀ m, lim = .action m → WritesReg s n t f.wa (constWord 0) (s.iaOf t + 1)))

/-- R11, R46, R62, R64, R67, R69, R70, R72, R74, R218, R237, R253, R307, R332, R364, R371, R448, R449, Table 3.17: what stops a
set-up instruction, in order: ILLEGAL of an unused field or a reserved form; ABSENT_UNIT of its port or unit; SETUP_OPERAND of
the first operand register that is empty, poisoned or below SETUPMIN, counted in SETUPREJ; SETUP_OPERAND of the first field
at fault in WIN, ROUTE, ADMIT, LEVRULE, RIFLOAD, RIFCHAN and GROUPJOIN, of GROUPLEAVE outside a group, of the code, INST, page
or field number of a profile instruction, EXPERT and XCTL, and of a value that XCTL refuses; ENGINE_RUNNING of RIFLOAD and
RIFCHAN; EXPERT_LOCK of an XCTL of a locked instance. Each names its cause in XINFO. -/
def Obligations.SetupExceptions : Prop :=
  (∀ row ∈ setupRows, ∀ (t : Thread) (f : FmtS) (s : State) (a b : Data),
    a = dataOf (s.reg t f.wa) → b = dataOf (s.reg t f.wb) → operandsOnly f = true →
    s.runs t (encS row.2.1 f) [f.wa, f.wb] true = true →
    (∀ c x, row.2.2 s a b = some (c, x) → ∃ n, exec (row.1 t f) s = .next n ∧ TakesException s n t 0x08 x (s.iaOf t)) ∧
    (row.2.2 s a b = none → s.badOperand t f.wa = true →
      ∃ n, exec (row.1 t f) s = .next n ∧ (n.thr t).xcause = 0x09 ∧
        (n.thr t).xinfo = BitVec.ofNat 64 (2 ^ 15 + f.wa.val) ∧ (n.thr t).xia = s.iaOf t ∧
        count 11 n.sec.cnt = count 11 s.sec.cnt + 1 ∧ (∀ r, n.reg t r = s.reg t r) ∧ SameMemory s n) ∧
    (row.2.2 s a b = none → s.badOperand t f.wa = false → s.badOperand t f.wb = true →
      ∃ n, exec (row.1 t f) s = .next n ∧ (n.thr t).xcause = 0x09 ∧
        (n.thr t).xinfo = BitVec.ofNat 64 (2 ^ 15 + f.wb.val) ∧ (n.thr t).xia = s.iaOf t ∧
        count 11 n.sec.cnt = count 11 s.sec.cnt + 1 ∧ (∀ r, n.reg t r = s.reg t r) ∧ SameMemory s n)) ∧
  (∀ (t : Thread) (f : FmtS) (s : State) (a b : Data) (r : Reg) (low : Nat),
    a = dataOf (s.reg t f.wa) → b = dataOf (s.reg t f.wb) → operandsOnly f = true →
    (s.setsUp t 0x3B f [f.wa, f.wb] → bitsAt b 52 2 ≠ 0 → s.winAbsent b = none → FirstAtFault (s.winRows f a b) r low →
      ∃ n, exec (.win t f) s = .next n ∧ TakesException s n t 0x09 (BitVec.ofNat 64 (r.val + 256 * low)) (s.iaOf t)) ∧
    (s.setsUp t 0x3C f [f.wa, f.wb] → s.routeAbsent a = none → FirstAtFault (s.routeRows f a b) r low →
      (∃ n, exec (.route t f) s = .next n ∧ TakesException s n t 0x09 (BitVec.ofNat 64 (r.val + 256 * low)) (s.iaOf t)) ∧
      ∃ n, exec (.routeRemove t f) s = .next n ∧
        TakesException s n t 0x09 (BitVec.ofNat 64 (r.val + 256 * low)) (s.iaOf t)) ∧
    (s.setsUp t 0x3D f [f.wa, f.wb] → ¬ (bitsAt b 0 16 = 0 ∧ bitsAt b 16 8 = 0) → s.admitAbsent a = none →
      FirstAtFault (admitRows f a b) r low →
      ∃ n, exec (.admitClass t f) s = .next n ∧
        TakesException s n t 0x09 (BitVec.ofNat 64 (r.val + 256 * low)) (s.iaOf t)) ∧
    (s.setsUp t 0x3E f [f.wa, f.wb] → a.getLsbD 5 = true → s.levruleAbsent a = none → FirstAtFault (levruleRows f a b) r low →
      ∃ n, exec (.levrule t f) s = .next n ∧ TakesException s n t 0x09 (BitVec.ofNat 64 (r.val + 256 * low)) (s.iaOf t)) ∧
    (s.setsUp t 0x34 f [f.wa, f.wb] → FirstAtFault (rifloadRows f a b) r low →
      ∃ n, exec (.rifload t f) s = .next n ∧ TakesException s n t 0x09 (BitVec.ofNat 64 (r.val + 256 * low)) (s.iaOf t)) ∧
    (∀ g : ChanNo, g.val = bitsAt a 0 6 → s.setsUp t 0x35 f [f.wa, f.wb] → FirstAtFault (s.rifchanRows f g a b) r low →
      ∃ n, exec (.rifchan t f) s = .next n ∧ TakesException s n t 0x09 (BitVec.ofNat 64 (r.val + 256 * low)) (s.iaOf t)) ∧
    (s.setsUp t 0x36 f [f.wa, f.wb] → FirstAtFault (s.joinRows f a b) r low →
      ∃ n, exec (.groupjoin t f) s = .next n ∧
        TakesException s n t 0x09 (BitVec.ofNat 64 (r.val + 256 * low)) (s.iaOf t))) ∧
  (∀ (t : Thread) (f : FmtS) (s : State) (a b : Data) (e : EngNo),
    a = dataOf (s.reg t f.wa) → b = dataOf (s.reg t f.wb) → operandsOnly f = true → s.setsUp t 0x34 f [f.wa, f.wb] →
    e.val = bitsAt a 0 2 → (∀ x ∈ rifloadRows f a b, ¬ x.1) → s.overlaps t b.toNat (8 * bitsAt a 9 8) = false →
    ((∃ i, i < bitsAt a 9 8 ∧ badStoreWord (s.res.deliver (b.toNat / 8 + i)) = true) →
      ∃ n, exec (.rifload t f) s = .next n ∧ TakesException s n t 0x09 (BitVec.ofNat 64 f.wb.val) (s.iaOf t)) ∧
    ((∀ i, i < bitsAt a 9 8 → badStoreWord (s.res.deliver (b.toNat / 8 + i)) = false) → s.engines[e].running = true →
      ∃ n, exec (.rifload t f) s = .next n ∧ TakesException s n t 0x0A (BitVec.ofNat 64 e.val) (s.iaOf t))) ∧
  (∀ (t : Thread) (f : FmtS) (s : State) (a b : Data) (g : ChanNo),
    a = dataOf (s.reg t f.wa) → b = dataOf (s.reg t f.wb) → operandsOnly f = true → s.setsUp t 0x35 f [f.wa, f.wb] →
    g.val = bitsAt a 0 6 → (∀ x ∈ s.rifchanRows f g a b, ¬ x.1) → s.engines[engOf g].running = true →
    s.chans[g].latest.enable = true → b.getLsbD 7 = true →
    ∃ n, exec (.rifchan t f) s = .next n ∧ TakesException s n t 0x0A (BitVec.ofNat 64 (engOf g).val) (s.iaOf t)) ∧
  (∀ (t : Thread) (f : FmtS) (s : State),
    f.wa = 0 → f.wb = 0 → f.sub = 0 → f.inst = 0 → f.sx = 1 → s.setsUp t 0x36 f [] → s.group.joined = false →
    ∃ n, exec (.groupleave t f) s = .next n ∧ TakesException s n t 0x09 (BitVec.ofNat 64 (2 ^ 14)) (s.iaOf t)) ∧
  (∀ (t : Thread) (f : FmtS) (s : State),
    s.setsUp t 0x37 f [] →
    ((f.wa ≠ 0 ∨ f.wb ≠ 0 ∨ f.sub ≠ 0 ∨ 5 < f.inst.toNat) →
      (∃ n, exec (.portEnable t f) s = .next n ∧ TakesException s n t 0x01 ((encS 0x37 f).setWidth 64) (s.iaOf t)) ∧
      ∃ n, exec (.portDisable t f) s = .next n ∧ TakesException s n t 0x01 ((encS 0x37 f).setWidth 64) (s.iaOf t)) ∧
    (f.wa = 0 → f.wb = 0 → f.sub = 0 → f.sx.toNat ≤ 1 → f.inst.toNat < 4 → s.hasPb f.inst.toNat = false →
      (∃ n, exec (.portEnable t f) s = .next n ∧
        TakesException s n t 0x08 (BitVec.ofNat 64 (16 * 2 + f.inst.toNat)) (s.iaOf t)) ∧
      ∃ n, exec (.portDisable t f) s = .next n ∧
        TakesException s n t 0x08 (BitVec.ofNat 64 (16 * 2 + f.inst.toNat)) (s.iaOf t))) ∧
  (∀ row ∈ profileRows, ∀ (t : Thread) (f : FmtS) (s : State) (code : Nat),
    f.wa = 0 → f.wb = 0 → f.sub = BitVec.ofNat 4 row.2.code → f.sx = BitVec.ofNat 13 code → code < 64 → s.setsUp t 0x38 f [] →
    (f.inst.toNat < row.2.count → s.present row.2 f.inst.toNat = false →
      ∃ n, exec (row.1 t f) s = .next n ∧
        TakesException s n t 0x08 (BitVec.ofNat 64 (16 * row.2.code + f.inst.toNat)) (s.iaOf t)) ∧
    (s.subAbsent row.2 f.inst.toNat = none → profileFields row.2 code = none →
      ∃ n, exec (row.1 t f) s = .next n ∧ TakesException s n t 0x09 (BitVec.ofNat 64 (2 ^ 14)) (s.iaOf t)) ∧
    (profileFields row.2 code ≠ none → row.2.count ≤ f.inst.toNat → f.inst ≠ 7 →
      ∃ n, exec (row.1 t f) s = .next n ∧ TakesException s n t 0x09 (BitVec.ofNat 64 (2 ^ 14 + 256 * 13)) (s.iaOf t)) ∧
    (∀ l is, s.subAbsent row.2 f.inst.toNat = none → profileFields row.2 code = some l →
      s.instances row.2 f.inst.toNat = some is →
      (∃ i ∈ is, (s.sub row.2 i).unlocked = false ∧ s.mayChange row.2 (s.sub row.2 i).fields l none = false) →
      ∃ n, exec (row.1 t f) s = .next n ∧ TakesException s n t 0x09 (BitVec.ofNat 64 (2 ^ 14)) (s.iaOf t))) ∧
  (∀ (t : Thread) (f : FmtS) (s : State) (u : Sub),
    f.wa = 0 → f.wb = 0 → f.sx.toNat ≤ 1 → Sub.ofCode f.sub.toNat = some u → s.setsUp t 0x39 f [] →
    (f.inst.toNat < u.count → s.present u f.inst.toNat = false →
      (∃ n, exec (.expertOn t f) s = .next n ∧
        TakesException s n t 0x08 (BitVec.ofNat 64 (16 * u.code + f.inst.toNat)) (s.iaOf t)) ∧
      ∃ n, exec (.expertOff t f) s = .next n ∧
        TakesException s n t 0x08 (BitVec.ofNat 64 (16 * u.code + f.inst.toNat)) (s.iaOf t)) ∧
    (u.count ≤ f.inst.toNat → f.inst ≠ 7 →
      (∃ n, exec (.expertOn t f) s = .next n ∧ TakesException s n t 0x09 (BitVec.ofNat 64 (2 ^ 14 + 256 * 13)) (s.iaOf t)) ∧
      ∃ n, exec (.expertOff t f) s = .next n ∧ TakesException s n t 0x09 (BitVec.ofNat 64 (2 ^ 14 + 256 * 13)) (s.iaOf t)) ∧
    (∀ is, f.sx = 0 → s.subAbsent u f.inst.toNat = none → s.instances u f.inst.toNat = some is →
      (∃ i ∈ is, s.mayLock u i = false) →
      ∃ n, exec (.expertOff t f) s = .next n ∧ TakesException s n t 0x09 (BitVec.ofNat 64 (2 ^ 14 + 256 * 16)) (s.iaOf t))) ∧
  (∀ (t : Thread) (f : FmtS) (s : State) (u : Sub),
    f.wb = 0 → Sub.ofCode f.sub.toNat = some u → f.sx.extractLsb' 0 3 = 0 → s.setsUp t 0x3A f [f.wa] →
    (u.count ≤ f.inst.toNat ∨ (s.present u f.inst.toNat = true ∧ (s.sub u f.inst.toNat).unlocked = true)) →
    (sxPage f = 15 →
      ∃ n, exec (.xctl t f) s = .next n ∧ TakesException s n t 0x09 (BitVec.ofNat 64 (2 ^ 14 + 256 * 9)) (s.iaOf t)) ∧
    (sxPage f ≠ 15 → aget (key (sxPage f) (sxField f)) (fieldLimits u) = none →
      ∃ n, exec (.xctl t f) s = .next n ∧ TakesException s n t 0x09 (BitVec.ofNat 64 (2 ^ 14 + 256 * 3)) (s.iaOf t)) ∧
    (∀ lim, sxPage f ≠ 15 → aget (key (sxPage f) (sxField f)) (fieldLimits u) = some lim → u.count ≤ f.inst.toNat →
      ∃ n, exec (.xctl t f) s = .next n ∧ TakesException s n t 0x09 (BitVec.ofNat 64 (2 ^ 14 + 256 * 13)) (s.iaOf t)) ∧
    (∀ lim, sxPage f ≠ 15 → aget (key (sxPage f) (sxField f)) (fieldLimits u) = some lim → f.inst.toNat < u.count →
      (lim.admits (dataOf (s.reg t f.wa)) = false ∨ ((∀ m, lim ≠ .action m) ∧
        jointOk u (aset (key (sxPage f) (sxField f)) (dataOf (s.reg t f.wa)) (s.sub u f.inst.toNat).fields) = false)) →
      ∃ n, exec (.xctl t f) s = .next n ∧ TakesException s n t 0x09 (BitVec.ofNat 64 f.wa.val) (s.iaOf t))) ∧
  (∀ (t : Thread) (f : FmtS) (s : State) (u : Sub),
    f.wb = 0 → Sub.ofCode f.sub.toNat = some u → f.sx.extractLsb' 0 3 = 0 → f.inst.toNat < u.count →
    s.present u f.inst.toNat = true → (s.sub u f.inst.toNat).unlocked = false →
    s.runs t (encS 0x3A f) [f.wa] true = true →
    ∃ n, exec (.xctl t f) s = .next n ∧
      TakesException s n t 0x07 ((f.sub ++ f.inst ++ f.sx.extractLsb' 3 10 ++ 0#3).setWidth 64) (s.iaOf t))

/-! ### The Confluence buffer's own steps and the Gauge (Chapters 5 and 12) -/

/-- R109, R110, R111, R128, R129: ENTRY_CLOSE_TIMEOUT closes the oldest open entry of its thread and line; DRAIN_WRITE writes the
enabled bytes of a draining entry that no window holds, with their tags, frees the entry and clears the other threads'
reservations there; PROTECTION_WINDOW_END hands the granule to the next waiting thread in turn, or to nobody. No other entry,
window or byte of memory changes. -/
def Obligations.DrainsAndWindows : Prop :=
  (∀ (t : Thread) (line : Nat) (s : State) (a b : List CEntry) (e : CEntry),
    s.clocked = true → s.seq.conf = a ++ e :: b → e.thread = t → e.line = line → e.draining = false →
    (∀ x ∈ a, ¬ (x.thread = t ∧ x.line = line ∧ x.draining = false)) →
    ∃ n, exec (.entryCloseTimeout t line) s = .next n ∧
      n.seq.conf = a ++ { e with draining := true, isOpen := false } :: b ∧
      { n with seq := { n.seq with conf := s.seq.conf } } = s) ∧
  (∀ (t : Thread) (line : Nat) (s : State) (a b : List CEntry) (e : CEntry),
    s.clocked = true → s.seq.conf = a ++ e :: b → e.thread = t → e.line = line → e.draining = true →
    (∀ x ∈ a, ¬ (x.thread = t ∧ x.line = line)) → s.protHolds t line = false →
    ∃ n : State, exec (.drainWrite t line) s = .next n.proceed ∧ n.seq.conf = a ++ b ∧
      (∀ i : Fin 8, n.res.word (8 * line + i.val) =
        if e.words[i].be = 0 then s.res.word (8 * line + i.val)
        else e.words[i].over (s.res.deliver (8 * line + i.val))) ∧
      (∀ x, x / 64 ≠ line → readByte n.res.data x = readByte s.res.data x) ∧
      (∀ w, w / 8 ≠ line → readByte n.res.tags w = readByte s.res.tags w) ∧
      (∀ u, u ≠ t → (n.thr u).resv ≠ some line) ∧ { n with seq := s.seq, res := s.res } = s) ∧
  (∀ (g : Nat) (s : State) (cur : Prot),
    s.clocked = true → (s.seq.prot.find? fun p => p.granule = g) = some cur →
    ∃ n, exec (.protectionWindowEnd g) s = .next n ∧
      (nextOwner s.seq.protQueue g cur.owner = none → ∀ p ∈ n.seq.prot, p.granule ≠ g) ∧
      (∀ q, nextOwner s.seq.protQueue g cur.owner = some q →
        q ∈ n.seq.prot ∧ ∀ p ∈ n.seq.prot, p.granule = g → p = q) ∧
      (∀ p, p.granule ≠ g → (p ∈ n.seq.prot ↔ p ∈ s.seq.prot)) ∧
      { n with seq := { n.seq with prot := s.seq.prot, protQueue := s.seq.protQueue } } = s)

/-- R320, R321, R325, R328, Table 12.5: a code C of the Gauge stands within one step of the input C x scale / (G x 2^23), and on it
where the input is such a value; an output takes the next sequence number, is written into the ring at its place where the
ring has words, and stands in LAST of its channel: the code with SETTLING, OVR, SUSPECT and ALARM, VALID once the visit has
settled; an overwritten output counts in GOVERRUN, and no other word of memory changes. Which of two codes an input between
them gives is a free value (log 95). -/
def Obligations.GaugeOutputs : Prop :=
  (∀ (c : Nat) (cfg : BitVec 64) (x : Int) (up : Bool),
    x.natAbs * 2 ^ bitsAt cfg 0 3 < (if c < 16 then 40000000000 else 1250000000) →
    ((gaugeCode c cfg x up).toInt * (if c < 16 then 40000000000 else 1250000000) - x * (2 ^ bitsAt cfg 0 3 * 2 ^ 23 : Nat)).natAbs <
      (if c < 16 then 40000000000 else 1250000000)) ∧
  (∀ (c : Nat) (cfg : BitVec 64) (x k : Int) (up : Bool),
    -(2 ^ 23) ≤ k → k < 2 ^ 23 → x * (2 ^ bitsAt cfg 0 3 * 2 ^ 23 : Nat) = k * (if c < 16 then 40000000000 else 1250000000) →
    (gaugeCode c cfg x up).toInt = k) ∧
  ∀ (x : GaugeSample) (s : State) (c : Fin 20) (k : BitVec 24) (settling suspect valid alarm : Bool) (d : Data),
    k = gaugeCode c.val s.gauge.cfg x.input ((Config.freeBits s.free).getLsbD 0) →
    s.clocked = true → s.gauge.visit = some c.val → settling = decide (s.gauge.made < settleOf s.gauge.cfg) →
    suspect = (!settling && s.gauge.suspect) → valid = (!settling && !suspect) →
    alarm = (if valid then s.outside c.val k else s.gauge.alarms.getLsbD c.val) →
    d = gaugeData k c.val s.gauge.seq settling (overRange c.val s.gauge.cfg x.input) suspect alarm →
    ∃ n, exec (.gaugeOutput x) s = .next n ∧ n.gauge.seq = s.gauge.seq + 1 ∧ n.gauge.last[c] = d ∧
      (∀ i, i ≠ c → n.gauge.last[i] = s.gauge.last[i]) ∧
      (s.fld .gauge 0 2 = 0 → SameMemory s n ∧ n.gauge.overrun = s.gauge.overrun) ∧
      (∀ w, s.fld .gauge 0 2 ≠ 0 → w = s.fld .gauge 0 1 / 8 + s.gauge.seq.toNat % s.fld .gauge 0 2 →
        n.res.word w = mkWord (mkTag 8 (BitVec.ofNat 2 (s.lev 7)) valid false) d ∧
        (∀ x, x / 8 ≠ w → readByte n.res.data x = readByte s.res.data x) ∧
        (∀ x, x ≠ w → readByte n.res.tags x = readByte s.res.tags x) ∧
        n.gauge.overrun = if s.fld .gauge 0 2 ≤ (s.gauge.seq - s.gaugeAck).toNat then s.gauge.overrun + 1 else s.gauge.overrun)

/-! ### Lanes (Chapter 6) -/

/-- R139 to R144, R148, Table 6.7, R421: bring-up of a lane and its port. Signal takes a lane to stage 2, the fourth marker to stage
3, the eighth of one sense to stage 4; in stage 5 a peer's request is answered; a timeout sends a lane or its port back
and is recorded; after a failed rate the lanes are at stage 2 again, or the port waits when no rate is left. -/
def Obligations.LaneBringUp : Prop :=
  (∀ (l : LaneNo) (s : State),
    s.laneLive (lanePort l) = true → s.lanes[lanePort l].waiting10 = false → s.lanes[lanePort l].stage ≤ 4 →
    (s.laneOf l).stage = 1 →
    ∃ n, exec (.signalDetect l) s = .next n ∧ (n.laneOf l).stage = 2 ∧ (n.laneOf l).signal = true ∧
      (∀ m, m ≠ l → n.laneOf m = s.laneOf m) ∧ { n with lanes := s.lanes } = s) ∧
  (∀ (l : LaneNo) (tf : TrainFrame) (s : State),
    s.laneLive (lanePort l) = true → s.lanes[lanePort l].waiting10 = false → s.lanes[lanePort l].stage ≤ 4 →
    (s.laneOf l).signal = true →
    ((s.laneOf l).stage = 2 →
      ∃ n, exec (.tfReceive l tf) s = .next n ∧ (∀ m, m ≠ l → { n.laneOf m with ctle := (s.laneOf m).ctle } = s.laneOf m) ∧
        ((s.laneOf l).markers < 3 → (n.laneOf l).stage = 2 ∧ (n.laneOf l).markers = (s.laneOf l).markers + 1) ∧
        (3 ≤ (s.laneOf l).markers → (n.laneOf l).stage = 3 ∧ (n.laneOf l).locked = true)) ∧
    ((s.laneOf l).stage = 3 →
      ∃ n, exec (.tfReceive l tf) s = .next n ∧
        ((s.laneOf l).sense ≠ tf.inverted → (n.laneOf l).stage = 3 ∧ (n.laneOf l).markers = 1) ∧
        ((s.laneOf l).sense = tf.inverted → (s.laneOf l).markers < 7 →
          (n.laneOf l).stage = 3 ∧ (n.laneOf l).markers = (s.laneOf l).markers + 1) ∧
        ((s.laneOf l).sense = tf.inverted → 7 ≤ (s.laneOf l).markers →
          (∃ i, i ≠ laneIn l ∧ s.lanes[lanePort l].lanes[i].signal = true ∧
            (s.lanes[lanePort l].lanes[i].stage = 2 ∨ s.lanes[lanePort l].lanes[i].stage = 3)) →
          (n.laneOf l).stage = 4 ∧ (n.laneOf l).inverted = tf.inverted))) ∧
  (∀ (l : LaneNo) (tf : TrainFrame) (s : State),
    s.laneLive (lanePort l) = true → s.lanes[lanePort l].waiting10 = false → s.lanes[lanePort l].stage = 5 →
    (s.laneOf l).stage = 4 → (s.laneOf l).switched = true → tfValid tf = true →
    ∃ n, exec (.tfReceive l tf) s = .next n ∧ (n.laneOf l).lastTf = some tf.ctrl ∧ (n.laneOf l).peerReady = tfReady tf.ctrl ∧
      (tfCmd tf.ctrl = 0 → (n.laneOf l).status = 0 ∧ (n.laneOf l).taps = (s.laneOf l).taps) ∧
      (∀ m, m ≠ l → n.laneOf m = s.laneOf m)) ∧
  (∀ (l : LaneNo) (k : Nat) (s : State),
    s.laneLive (lanePort l) = true → s.lanes[lanePort l].waiting10 = false →
    (k = 2 ∨ k = 3 → s.lanes[lanePort l].stage ≤ 4 → (s.laneOf l).stage = k →
      (∀ i : Fin 4, s.lanes[lanePort l].lanes[i].stage ≠ 4) →
      ∃ n, exec (.stageTimeout l k) s = .next n ∧ (n.laneOf l).stage = 1 ∧ (n.laneOf l).inverted = false ∧
        n.lanes[lanePort l].lastFail = BitVec.ofNat 8 (k + 16) ∧
        count 6 n.lanes[lanePort l].cnt = count 6 s.lanes[lanePort l].cnt + 1 ∧
        (∀ m, m ≠ l → n.laneOf m = s.laneOf m) ∧ { n with lanes := s.lanes } = s) ∧
    (k = 4 → s.lanes[lanePort l].stage = 4 →
      ∃ n, exec (.stageTimeout l k) s = .next n ∧ n.lanes[lanePort l].stage = 1 ∧ n.lanes[lanePort l].lastFail = 0x14 ∧
        (∀ i : Fin 4, n.lanes[lanePort l].lanes[i].stage = 1) ∧ { n with lanes := s.lanes } = s) ∧
    (k = 5 ∧ s.lanes[lanePort l].stage = 5 ∨ k = 6 ∧ s.lanes[lanePort l].stage = 6 ∧ s.lanes[lanePort l].relocking = false →
      s.lanes[lanePort l].sending ≠ some .retrain →
      ∃ n, exec (.stageTimeout l k) s = .next n ∧
        n.lanes[lanePort l].failed = setBit s.lanes[lanePort l].failed s.lanes[lanePort l].rate.toNat true ∧
        ((∃ r ∈ s.lanes[lanePort l].rates, s.lanes[lanePort l].failed.getLsbD r = false ∧ r ≠ s.lanes[lanePort l].rate.toNat) →
          ∀ i : Fin 4, n.lanes[lanePort l].lanes[i].stage = 2) ∧
        ((∀ r ∈ s.lanes[lanePort l].rates, s.lanes[lanePort l].failed.getLsbD r = true ∨ r = s.lanes[lanePort l].rate.toNat) →
          n.lanes[lanePort l].waiting10 = true ∧ n.lanes[lanePort l].stage = 1) ∧ { n with lanes := s.lanes } = s)) ∧
  (∀ (l : LaneNo) (s : State), s.lanes[lanePort l].stage = 5 → (s.laneOf l).switched = true →
    ∃ n, exec (.adaptComplete l) s = .next n ∧
      n.laneOf l = { s.laneOf l with rxReady := true, ctle := (n.laneOf l).ctle, dfe := (n.laneOf l).dfe } ∧
      (forced s.lanes[lanePort l].inForce (key 2 0) = 1 → (n.laneOf l).ctle = (s.laneOf l).ctle) ∧
      (∀ m, m ≠ l → n.laneOf m = s.laneOf m) ∧ { n with lanes := s.lanes, free := s.free } = s) ∧
  (∀ (p : MxNo) (s : State), s.lanes[p].waiting10 = true →
    ∃ n, exec (.runRestartWaitEnd p) s = .next n ∧ n.lanes[p].waiting10 = false ∧ n.lanes[p].failed = 0 ∧
      n.lanes[p].stage = 1 ∧ (∀ i : Fin 4, n.lanes[p].lanes[i].stage = 1) ∧ { n with lanes := s.lanes } = s) ∧
  (∀ (l : LaneNo) (s : State),
    ∃ n, exec (.cdrLockLoss l) s = .next n ∧ n.laneOf l = { s.laneOf l with locked := false } ∧
      (∀ m, m ≠ l → n.laneOf m = s.laneOf m) ∧ { n with lanes := s.lanes } = s) ∧
  (∀ (l : LaneNo) (s : State), s.laneLive (lanePort l) = true →
    ∃ n, exec (.cdrLock l) s = .next n ∧ n.laneOf l = { s.laneOf l with locked := true } ∧
      (∀ m, m ≠ l → n.laneOf m = s.laneOf m) ∧ { n with lanes := s.lanes } = s)

/-- R136, R137, R145 to R147, R150, R151, R153, R155, R156, R160, Table 6.9: the link and its measurements. Four good codewords end
stage 6 in link up; the eighth bad one, and signal lost, drop the link; RELOCK, RETRAIN and the timeouts of both send the
port where they say; FOM, FOMLOW, EYEH and EYEW take what was measured, and a full scan writes its blocks and ends. -/
def Obligations.LinkAndEyes : Prop :=
  (∀ (p : MxNo) (cw : Codeword) (s : State),
    s.laneLive p = true → (∀ c ∈ cw.flits, flitReserved c = false ∧ flitBadTxn c = false) →
    (s.lanes[p].uncorrectable cw = false → cwSync cw = true →
      (s.lanes[p].stage = 6 → s.lanes[p].goodRun < 3 →
        ∃ n, exec (.codewordReceive p cw) s = .next n ∧ n.lanes[p].goodRun = s.lanes[p].goodRun + 1 ∧ n.lanes[p].stage = 6) ∧
      (s.lanes[p].stage = 6 → 3 ≤ s.lanes[p].goodRun →
        ∃ n, exec (.codewordReceive p cw) s = .next n ∧ n.lanes[p].stage = 7 ∧ n.lanes[p].relocking = false ∧
          n.mxt[p].up = true ∧ n.mxt[p].echoTx = BitVec.allOnes 64 ∧
          (∀ t, (s.thr t).wait = .none → ∀ r, n.reg t r = s.reg t r) ∧ n.res = s.res) ∧
      (s.lanes[p].stage = 7 →
        ∃ n, exec (.codewordReceive p cw) s = .next n ∧ n.lanes[p].badRun = 0 ∧ n.lanes[p].stage = 7 ∧ n.mxt = s.mxt)) ∧
    (s.lanes[p].uncorrectable cw = true → s.lanes[p].stage = 7 →
      (s.lanes[p].badRun < 7 →
        ∃ n, exec (.codewordReceive p cw) s = .next n ∧ n.lanes[p].badRun = s.lanes[p].badRun + 1 ∧
          count 9 n.lanes[p].cnt = count 9 s.lanes[p].cnt + 1 ∧ n.lanes[p].stage = 7) ∧
      (7 ≤ s.lanes[p].badRun → s.mxt[p].reqs = [] →
        ∃ n, exec (.codewordReceive p cw) s = .next n ∧ count 11 n.lanes[p].cnt = count 11 s.lanes[p].cnt + 1 ∧
          ((∀ i ∈ s.lanes[p].used, s.lanes[p].lanes[i].signal = true) → forced s.lanes[p].inForce 6 ≠ 1 →
            s.lanes[p].sending ≠ some .retrain →
            n.lanes[p].stage = 6 ∧ n.lanes[p].relocking = true ∧ n.lanes[p].sending = some .relock) ∧
          ((∃ i ∈ s.lanes[p].used, s.lanes[p].lanes[i].signal = false) → n.lanes[p].stage = 1)))) ∧
  (∀ (l : LaneNo) (s : State), s.laneLive (lanePort l) = true → s.lanes[lanePort l].stage = 7 →
    s.lanes[lanePort l].inWidth (laneIn l) = true →
    ∃ n, exec (.signalLoss l) s = .next n ∧ n.lanes[lanePort l].stage = 1 ∧
      (∀ i : Fin 4, n.lanes[lanePort l].lanes[i].stage = 1) ∧
      (s.mxt[lanePort l].reqs = [] → n.mxt[lanePort l].up = false ∧ (n.laneOf l).signal = false ∧
        count 11 n.lanes[lanePort l].cnt = count 11 s.lanes[lanePort l].cnt + 1)) ∧
  (∀ (p : MxNo) (s : State), s.lanes[p].relocking = true →
    ∃ n, exec (.quickRelockTimeout p) s = .next n ∧ n.lanes[p].stage = 1 ∧ n.lanes[p].relocking = false ∧
      { n with lanes := s.lanes } = s) ∧
  (∀ (p : MxNo) (s : State), s.laneLive p = true → s.lanes[p].stage = 7 → s.mxt[p].reqs = [] →
    (forced s.lanes[p].inForce 6 ≠ 1 → s.lanes[p].sending ≠ some .retrain →
      ∃ n, exec (.linkFlitReceive p 1) s = .next n ∧ n.lanes[p].stage = 6 ∧ n.lanes[p].relocking = true) ∧
    (∃ n, exec (.linkFlitReceive p 2) s = .next n ∧ n.lanes[p].stage = 1 ∧ n.lanes[p].failed = 0) ∧
    (∀ c : BitVec 6, c ≠ 1 → c ≠ 2 →
      ∃ n, exec (.linkFlitReceive p c) s = .next n ∧ count 10 n.lanes[p].cnt = count 10 s.lanes[p].cnt + 1 ∧
        n.lanes[p].stage = 7)) ∧
  (∀ (p : MxNo) (s : State), s.mxt[p].reqs = [] →
    (s.lanes[p].sending = some .relock →
      ∃ n, exec (.linkFlitsEnd p) s = .next n ∧ n.lanes[p] = { s.lanes[p] with sending := none }) ∧
    (s.lanes[p].sending = some .retrain →
      ∃ n, exec (.linkFlitsEnd p) s = .next n ∧ n.lanes[p].stage = 1 ∧ n.lanes[p].failed = 0 ∧ n.lanes[p].sending = none)) ∧
  (∀ (l : LaneNo) (a b : Nat) (s : State), 5 ≤ s.lanes[lanePort l].stage →
    ∃ n, exec (.fomUpdate l a b) s = .next n ∧ (∀ m, m ≠ l → n.laneOf m = s.laneOf m) ∧
      ((s.lanes[lanePort l].stage ≠ 7 ∨ s.lanes[lanePort l].inWidth (laneIn l) = true) →
        n.laneOf l = { s.laneOf l with fom := BitVec.ofNat 8 (min 255 (2 * a / b)), ctle := (n.laneOf l).ctle,
                                       dfe := (n.laneOf l).dfe } ∧
        { n with lanes := s.lanes, free := s.free } = s) ∧
      (s.lanes[lanePort l].stage ≠ 7 → (n.laneOf l).ctle = (s.laneOf l).ctle ∧ (n.laneOf l).dfe = (s.laneOf l).dfe) ∧
      (s.lanes[lanePort l].stage = 7 →
        (s.fld .lane (lanePort l).val (key 2 0) = 1 → (n.laneOf l).ctle = (s.laneOf l).ctle) ∧
        (s.fld .lane (lanePort l).val (key 2 5) = 1 → (n.laneOf l).dfe = (s.laneOf l).dfe) ∧
        (s.lanes[lanePort l].inWidth (laneIn l) = false → n = s))) ∧
  (∀ (l : LaneNo) (s : State), s.lanes[lanePort l].stage = 7 → s.lanes[lanePort l].inWidth (laneIn l) = true →
    (s.laneOf l).fom.toNat < s.fld .lane (lanePort l).val (key 2 7) →
    ∃ n, exec (.fomwarnTimeout l) s = .next n ∧
      n.lanes[lanePort l].fomLow.getLsbD (s.lanes[lanePort l].swap (laneIn l)).val = true ∧ n.lanes[lanePort l].stage = 7 ∧
      n.mxt = s.mxt ∧ n.res = s.res) ∧
  (∀ (l : List Nat) (z : Nat),
    (l[z]? ≠ some 0 → eyeSpan l z = 0) ∧
    (l[z]? = some 0 →
      (∀ a b, b ≤ z → (∀ i, z - b ≤ i → i ≤ z + a → l[i]? = some 0) → a + b ≤ eyeSpan l z) ∧
      ∃ a b, b ≤ z ∧ (∀ i, z - b ≤ i → i ≤ z + a → l[i]? = some 0) ∧ eyeSpan l z = a + b)) ∧
  (∀ (p : MxNo) (eyes : List (List EyeSweep)) (s : State), s.lanes[p].stage = 7 → s.lanes[p].scan = none →
    s.fld .lane p.val (key 4 0) ≠ 0 → eyes.length ≤ s.lanes[p].lanesOf → s.lanes[p].width.toNat ≤ 2 →
    ∃ n, exec (.summaryScan p eyes) s = .next n ∧
      (∀ (i : Fin 4) (e : List EyeSweep) (h w : Nat), eyes[i.val]? = some e →
        (∀ x ∈ e, h ≤ eyeSpan x.volt 63 ∧ w ≤ eyeSpan x.phase 32) → (∃ x ∈ e, h = eyeSpan x.volt 63) →
        (∃ x ∈ e, w = eyeSpan x.phase 32) →
        n.lanes[p].lanes[s.lanes[p].swap i] =
          { s.lanes[p].lanes[s.lanes[p].swap i] with eyeH := BitVec.ofNat 8 h, eyeW := BitVec.ofNat 8 w }) ∧
      { n with lanes := s.lanes } = s) ∧
  (∀ (p : MxNo) (blocks : List ScanBlock) (s : State) (c : Scan), s.lanes[p].scan = some c → c.addr % 8 = 0 →
    blocks.length = c.blocks.length → (∀ b ∈ blocks, b.errors ≠ []) →
    ∃ n, exec (.fullScanComplete p blocks) s = .next n ∧ n.lanes[p].scan = none ∧
      n.lanes[p].scanStat = (if c.result = 0 then 2 else 3) ∧ n.free = s.free ∧
      (∀ (k i : Nat) (x : Nat × Nat) (b : ScanBlock) (d : Data), c.blocks[k]? = some x → blocks[k]? = some b →
        (c.blockWords x (c.stamps x.1 x.2 s.plant) b.errors)[i]? = some d →
        n.res.word (c.addr / 8 + k * (3 + c.np * c.nv) + i) = constWord d) ∧
      (∀ a, a < c.addr ∨ c.addr + 8 * c.blocks.length * (3 + c.np * c.nv) ≤ a →
        readByte n.res.data a = readByte s.res.data a))

/-! ### Requests and packets of the MX ports (Chapters 7 and 14) -/

/-- R15, R167, R175, R177, R180, R220, R256, R365, Table 1.3: RD, WRN and WRP that pass Levee, a window and Weir wait at their port to
be served, outstanding under their tag; a WRP behind a held INT of its SRC waits for it; a flush is answered once no posted work of its SRC is left, and waits for it
otherwise; an INT that waits for nothing reaches the level of its route. Each takes the next PSN, and no memory changes. -/
def Obligations.RequestsReceived : Prop :=
  (∀ row ∈ ([(.rd, .rd, 1), (.wrn, .wrn, 1), (.wrp, .wrp, 0)] : List ((MxNo → ReqPkt → Instr) × RqKind × Fin 4)),
    ∀ (p : MxNo) (k : ReqPkt) (s : State) (r : Req) (c : Fin 8) (cl : WeirClass) (w : Win) (wno : Nat) (t : BitVec 2)
      (l : List Word),
    s.takesPsn p k.h.psn = true → reqOk row.2.1 k = true → s.tagInUse p k = false →
    (row.2.1 = .wrp → s.intsHeld p k.h.src = []) →
    s.inAperture p k.addr.toNat k.h.len.toNat = false →
    s.levCheck (some p) row.2.1 k.h.src (k.data.map fixOrigin) = .pass t l → s.lookup k.addr.toNat k.h.len.toNat = some (wno, w) →
    r = { s.reqOf p row.2.1 k s.nextId l with trust := t, wno := wno, win := w } → s.servable r w c cl →
    ∃ n, exec (row.1 p k) s = .next n ∧ WaitsServed s n r c cl ∧
      Delivered s n p row.2.2 (Pkt.rq row.2.1 k).flits ∧
      n.mxt[p].ins = s.mxt[p].ins ++ [{ src := k.h.src, tag := k.h.tag, id := s.nextId, posted := row.2.1 == .wrp }] ∧
      n.nextId = s.nextId + 1 ∧ n.res = s.res ∧ CountsFixes s n k.data) ∧
  (∀ (p : MxNo) (k : ReqPkt) (s : State),
    s.takesPsn p k.h.psn = true → reqOk .wrp k = true → s.tagInUse p k = false → s.intsHeld p k.h.src ≠ [] →
    ∃ n, exec (.wrp p k) s = .next n ∧ Delivered s n p 0 (Pkt.rq .wrp k).flits ∧ n.pb = s.pb ∧ n.res = s.res ∧
      n.mxt[p].ins = s.mxt[p].ins ++ [{ src := k.h.src, tag := k.h.tag, id := s.nextId, posted := true }] ∧
      ∃ f, n.mxt[p].flushes = s.mxt[p].flushes ++ [f] ∧ f.wrp = some k ∧ f.id = s.nextId ∧ f.before = s.intsHeld p k.h.src) ∧
  (∀ (p : MxNo) (k : ReqPkt) (s : State) (t : BitVec 2),
    s.takesPsn p k.h.psn = true → reqOk .flush k = true → s.tagInUse p k = false →
    s.levCheck (some p) .flush k.h.src [] = .pass t [] → s.group.joined = false → s.mxt[p].flushes = [] →
    ((∀ i ∈ s.mxt[p].ins, i.posted = true → i.src ≠ k.h.src) →
      ∃ n, exec (.flush p k) s = .next n ∧ Delivered s n p 1 1 ∧ n.mxt[p].flushes = [] ∧ n.res = s.res ∧
        (∃ o, n.mxt[p].queues[(2 : Fin 4)] = s.mxt[p].queues[(2 : Fin 4)] ++ [o] ∧
          ∃ q : RspPkt, o.pkt = .rsp q ∧ q.h.tag = k.h.tag ∧ q.h.dst = k.h.src ∧ q.h.len = 0 ∧ q.code = 0 ∧ q.offset = 0)) ∧
    ((∃ i ∈ s.mxt[p].ins, i.posted = true ∧ i.src = k.h.src) →
      ∃ n, exec (.flush p k) s = .next n ∧ Delivered s n p 1 1 ∧ n.mxt[p].queues = s.mxt[p].queues ∧
        ∃ f, n.mxt[p].flushes = [f] ∧ f.src = k.h.src ∧ f.tag = k.h.tag ∧ f.int = none ∧
          ∀ i, i ∈ f.before ↔ ∃ j ∈ s.mxt[p].ins, j.posted = true ∧ j.src = k.h.src ∧ j.id = i)) ∧
  (∀ (p : MxNo) (k : ReqPkt) (s : State) (t : BitVec 2) (l : List Word) (g : PbNo) (level : Nat) (r : Route),
    s.takesPsn p k.h.psn = true → reqOk .int k = true →
    s.levCheck (some p) .int k.h.src (k.data.map fixOrigin) = .pass t l → s.group.joined = false → s.mxt[p].flushes = [] →
    (∀ i ∈ s.mxt[p].ins, i.posted = true → i.src ≠ k.h.src) → s.routeFor k.addr = some (g, level, r) →
    ∃ n, exec (.intMsg p k) s = .next n ∧ Delivered s n p 0 1 ∧ n.res = s.res ∧
      n.pb[g] = s.pb[g].interrupt level ((dataOf (l.headD 0)).getLsbD 13) ∧ ∀ h, h ≠ g → n.pb[h] = s.pb[h])

/-- R106, R121, R162, R164, R168, R170, R173, R174, R177 to R179, R181 to R184, R356: the link's own packets, seals and timers: a
response ends its request and gives its register the status; TIME leaves its times and, outside a group, an offset; LCP
acknowledges, gives credits and asks for a replay; ASSIGN gives the endpoint ID; seals verify or fail; segments close; a
sendable packet leaves under the next PSN. -/
def Obligations.LinkLayer : Prop :=
  (∀ (p : MxNo) (k : RspPkt) (s : State) (q : OutReq) (x : Ext) (g : Grant) (id : Nat),
    s.takesPsn p k.h.psn = true → rspOk k = true → k.h.dst = s.mxt[p].epid → k.code.toNat < 0xC →
    (s.mxt[p].reqs.find? fun y => y.tag = k.h.tag) = some q → q.owner = .ext id → q.parts = [] → q.len = k.h.len.toNat →
    k.offset = 0 → q.fits 0 q.len k.code.toNat k.data.length = true →
    s.grant (some p) k.h.src = some g → g.read = true → 0 < id → x.id = id → x.len = q.len → x.parts = [] →
    x.performed = false → s.seq.ext = [x] → (s.thr x.thread).wait = .none → (∀ h : PbNo, s.pb[h].acc = none ∧ s.pb[h].ewaOut = []) →
    ∃ n, exec (.rsp p k) s = .next n ∧ Delivered s n p 2 (Pkt.rsp k).flits ∧ (∀ y ∈ n.mxt[p].reqs, y.tag ≠ k.h.tag) ∧
      ∀ r : Reg, (s.thr x.thread).rf.waitsFor r id →
        n.reg x.thread r = statusWord k.code (if k.code = 1 ∧ k.hint = 0 then 1 else k.hint)) ∧
  (∀ (p : MxNo) (k : TimePkt) (s : State),
    s.takesBare p = true → bareOk k.h = true → s.group.joined = false → s.time.sourcePort = some p →
    ∃ n, exec (.timePacket p k) s = .next n ∧ n.mxt[p].echoTx = dataOf k.txtime ∧ n.mxt[p].echoRx = s.time.now ∧
      (dataOf k.echotx = BitVec.allOnes 64 → n.time = s.time) ∧
      (dataOf k.echotx ≠ BitVec.allOnes 64 →
        n.time.fabric = (offsetOf (dataOf k.txtime) (dataOf k.echotx) (dataOf k.echorx) s.time.now :: s.time.fabric).take 4) ∧
      n.res = s.res) ∧
  (∀ (p : MxNo) (k : LcpPkt) (s : State),
    s.takesBare p = true →
    (k.nak = false →
      ∃ n, exec (.lcp p k) s = .next n ∧ n.mxt[p].credit = #v[k.cred0, k.cred1, k.cred2, k.cred3] ∧
        (∀ l, ackedTo k.ackpsn s.mxt[p].unacked = some l → n.mxt[p].unacked = l ∧ n.mxt[p].replays = 0) ∧
        (ackedTo k.ackpsn s.mxt[p].unacked = none → n.mxt[p].unacked = s.mxt[p].unacked) ∧
        { n with mxt := s.mxt, seq := s.seq } = s) ∧
    (k.nak = true → ackedTo k.ackpsn s.mxt[p].unacked = none → s.mxt[p].unacked ≠ [] →
      s.mxt[p].replays < s.fld .mxt p.val (key 1 2) →
      ∃ n, exec (.lcp p k) s = .next n ∧ n.mxt[p].unacked = s.mxt[p].unacked ∧ n.mxt[p].replays = s.mxt[p].replays + 1 ∧
        count 2 n.mxt[p].cnt = count 2 s.mxt[p].cnt + 1)) ∧
  (∀ (p : MxNo) (h : Hdr) (s : State), s.takesBare p = true → bareOk h = true → s.mxt[p].fixed = false →
    (s.mxt[p].epid = 0 → h.dst ≠ 0 → h.dst ≠ 0xFFFF →
      ∃ n, exec (.assign p h) s = .next n ∧ n.mxt[p].epid = h.dst ∧ { n with mxt := s.mxt, seq := s.seq } = s) ∧
    (s.mxt[p].epid ≠ 0 ∨ h.dst = 0 ∨ h.dst = 0xFFFF →
      ∃ n, exec (.assign p h) s = .next n ∧ n.mxt = s.mxt)) ∧
  (∀ (p : MxNo) (k : SealFlit) (s : State), s.mxt[p].up = true → s.mxt[p].encMismatch = false →
    (s.mxt[p].encRx = false →
      ∃ n, exec (.sealFlitReceive p k) s = .next n ∧ n.mxt[p].encMismatch = true ∧
        count 13 n.mxt[p].cnt = count 13 s.mxt[p].cnt + 1 ∧ { n with mxt := s.mxt, seq := s.seq } = s) ∧
    (∀ q, s.mxt[p].encRx = true → s.mxt[p].held = [] → s.mxt[p].sealKey k = some q →
      ∃ n, exec (.sealFlitReceive p k) s = .next n ∧ n.mxt[p].rxKeys[(k.epoch + 2).toFin] = none ∧
        n.mxt[p].rxKeys[k.epoch.toFin] = some { q with high := some k.segno } ∧ { n with mxt := s.mxt, seq := s.seq } = s) ∧
    (s.mxt[p].encRx = true → s.mxt[p].sealKey k = none → s.mxt[p].authTimes.length < 15 →
      ∃ n, exec (.sealFlitReceive p k) s = .next n ∧ n.mxt[p].held = [] ∧ n.mxt[p].nak = true ∧
        count 4 n.mxt[p].cnt = count 4 s.mxt[p].cnt + 1 ∧ n.res = s.res)) ∧
  (∀ (p : MxNo) (s : State), s.mxt[p].up = true → s.mxt[p].encRx = true → s.mxt[p].held ≠ [] →
    s.mxt[p].authTimes.length < 15 →
    ∃ n, exec (.sealTimeout p) s = .next n ∧ n.mxt[p].held = [] ∧ n.mxt[p].nak = true ∧
      count 4 n.mxt[p].cnt = count 4 s.mxt[p].cnt + 1 ∧ n.res = s.res) ∧
  (∀ (p : MxNo) (s : State), s.mxt[p].up = true → s.mxt[p].encTx = true → s.mxt[p].seg ≠ [] →
    ∃ n, exec (.segmentClose p) s = .next n ∧ n.mxt[p].segno = s.mxt[p].segno + 1 ∧ n.mxt[p].seg = [] ∧
      (∀ k, s.mxt[p].txKey = some k → n.mxt[p].lastSealed = some (k.sealed s.mxt[p].segno s.mxt[p].seg)) ∧
      { n with mxt := s.mxt, seq := s.seq } = s) ∧
  (∀ (p : MxNo) (vc : Fin 4) (s : State) (q : QPkt) (r : List QPkt),
    s.mxt[p].queues[vc] = q :: r → s.sendable p vc q = true →
    ∃ n k, exec (.packetTransmit p vc) s = .next n ∧ k = s.stamp p (q.pkt.read q.errs) ∧
      (∃ more, n.mxt[p].queues[vc] = r ++ more ∧ (vc ≠ 0 → more = [])) ∧ n.mxt[p].txPsn = s.mxt[p].txPsn + 1 ∧
      n.mxt[p].unacked = s.mxt[p].unacked ++ [{ psn := s.mxt[p].txPsn, flits := k.flits, pkt := k }] ∧
      n.mxt[p].used[vc] = s.mxt[p].used[vc] + BitVec.ofNat 12 k.flits ∧ SameMemory s n) ∧
  (∀ (p : MxNo) (s : State), s.mxt[p].up = true → s.mxt[p].unacked ≠ [] →
    s.mxt[p].replays < s.fld .mxt p.val (key 1 2) →
    ∃ n, exec (.replayTimeout p) s = .next n ∧ n.mxt[p].unacked = s.mxt[p].unacked ∧
      n.mxt[p].replays = s.mxt[p].replays + 1 ∧ count 2 n.mxt[p].cnt = count 2 s.mxt[p].cnt + 1) ∧
  (∀ (p : MxNo) (s : State), s.canSend p 1 = true →
    ∃ n, exec (.lcpTimer p) s = .next n ∧ n.mxt[p].told = s.mxt[p].freed ∧ n.mxt[p].ackOwed = false ∧
      ∃ k : LcpPkt, n.mxt[p].lastLcp = some k ∧ k.ackpsn = s.mxt[p].rxPsn - 1 ∧ k.nak = false ∧ k.cred0 = s.mxt[p].freed[0] ∧
        k.cred1 = s.mxt[p].freed[1] ∧ k.cred2 = s.mxt[p].freed[2] ∧ k.cred3 = s.mxt[p].freed[3]) ∧
  (∀ (p : MxNo) (tag : BitVec 10) (s : State) (q : OutReq) (id : Nat),
    (s.mxt[p].reqs.find? fun y => y.tag = tag) = some q → q.owner = .ext id → (∀ h : PbNo, s.pb[h].acc = none) →
    (∀ h : PbNo, s.pb[h].ewaOut = []) →
    ∃ n, exec (.completionTimeout p tag) s = .next n ∧ (∀ y ∈ n.mxt[p].reqs, y.tag ≠ tag) ∧
      (tag, s.plant + 2000 * s.fld .mxt p.val (key 1 0)) ∈ n.mxt[p].heldTags) ∧
  (∀ (p : MxNo) (s : State), s.canSend p 1 = true →
    ∃ n, exec (.timeSend p) s = .next n ∧ (∃ k : TimePkt, n.mxt[p].lastTime = some k ∧ dataOf k.txtime = s.time.now ∧
      dataOf k.echotx = s.mxt[p].echoTx ∧ dataOf k.echorx = s.mxt[p].echoRx) ∧
      { n.time with inForce := s.time.inForce } = s.time ∧ n.res = s.res) ∧
  (∀ (g : PbNo) (w : Byte) (s : State) (e : EwaOut) (l : List EwaOut) (tag : BitVec 10),
    s.pb[g].ewaOut = l ++ [e] → (∀ x ∈ s.pb[g].ewaOut, x.wno = w.toNat ∧ x.mxport = e.mxport ∧ x.flush = none) →
    s.freeTag e.mxport = some tag →
    ∃ n, exec (.ewaFlushTimer g w) s = .next n ∧
      n.pb[g].ewaOut = (l ++ [e]).map (fun x => { x with flush := some s.nextId }) ∧
      n.mxt[e.mxport].reqs = s.mxt[e.mxport].reqs ++
        [{ tag := tag, owner := .ewaFlush g s.nextId, read := false, addr := e.addr % 2 ^ 48, len := 0, parts := [] }] ∧
      n.res = s.res)

/-! ### Weir and the journal (Chapter 10) -/

/-- R244, R255, R256, R258, R259, R262, R266, R267, R272, R273, R275, R277: a tick of the refill grid fills every bucket to its cap;
serving takes the chosen request to the jobs of its port, recorded first, in the journal region too, where its window
journals writes; the longest wait ends
with DEFER; an entry that is too old is final with outcome 5, its words poisoned; a final entry that every mirror peer has
acknowledged retires, and FLOOR follows its WSEQ; a silent mirror peer raises the GROUP event. -/
def Obligations.WeirAndJournal : Prop :=
  (∀ s : State, s.clocked = true →
    ∃ n, exec .quotaRefill s = .next n ∧ { n with pb := s.pb } = s ∧
      ∀ g : PbNo, { n.pb[g] with classes := s.pb[g].classes } = s.pb[g] ∧
        ∀ c : Fin 8, n.pb[g].classes[c] = s.pb[g].classes[c].map fun k =>
          { k with bucket := if k.rate = 0xFFFF then 1000 * k.depth.toNat
                             else min (k.bucket + k.rate.toNat) (1000 * k.depth.toNat) }) ∧
  (∀ (g : PbNo) (s : State) (w : Waiting) (p : MxNo) (gen : Nat) (j : Job),
    s.clocked = true → s.pb[g].jobs.length < s.fld .weir g.val 0 → s.nextServed g = some w → w.req.win.port = g →
    w.req.org = .mx p gen → w.req.odom = 0 → w.req.win.odom = 0 → (w.req.kind == .wrn && w.req.win.early) = false →
    j = { req := w.req, blocks := w.req.win.blocks (s.fld .parene g.val 7) w.req.addr w.req.len, got := [], markBad := false,
          retries := 0, answered := false, jsn := none, verify := false, differs := false } →
    ((w.req.win.jrnl && rqWrites w.req.kind) = false → s.pb[g].ext ≠ .low →
      ∃ n, exec (.weirServe g) s = .next n ∧ n.pb[g].jobs = s.pb[g].jobs ++ [j] ∧
        n.pb[g].waiting = (s.pb[g].waiting.filter fun v => v.req.id != w.req.id) ∧
        count (8 * w.cls.val) n.pb[g].wcnt = count (8 * w.cls.val) s.pb[g].wcnt + 1 ∧
        (∀ h, h ≠ g → n.pb[h] = s.pb[h]) ∧ { n with pb := s.pb, seq := s.seq } = s) ∧
    ((w.req.win.jrnl && rqWrites w.req.kind) = true → s.pb[g].ext ≠ .low → s.pb[g].enabled = true → s.group.joined = false →
      ∃ n, exec (.weirServe g) s = .next n ∧ n.pb[g].jobs = s.pb[g].jobs ++ [{ j with jsn := some s.pb[g].jsn }] ∧
        n.pb[g].jsn = (s.pb[g].jsn + 1) % 2 ^ 48 ∧ count 6 n.journal.cnt = count 6 s.journal.cnt + 1 ∧
        (∃ e : JEntry, n.journal.entries = s.journal.entries ++ [e] ∧ e.jsn = s.pb[g].jsn ∧ e.port = g ∧ e.state = .recorded ∧
          e.who = .src w.req.src ∧ e.words = w.req.words ∧ e.addr = w.req.addr ∧ e.len = w.req.len ∧ e.window = w.req.wno ∧
          e.trec = s.time.now ∧ (e.hasWseq = true ↔ w.req.kind = .wrn) ∧ (w.req.kind = .wrn → e.wseq = w.req.wseq) ∧
          (s.hcb.phase ≠ .zeroised →
            (∀ (i : Nat) (x : Word), e.image[i]? = some x → n.res.word (s.entryWord e i) = x) ∧
            ∀ a, (∀ i, i < e.image.length → a / 8 ≠ s.entryWord e i) → readByte n.res.data a = readByte s.res.data a)) ∧
        { n with pb := s.pb, seq := s.seq, journal := s.journal, res := s.res } = s)) ∧
  (∀ (g : PbNo) (s : State) (w : Waiting) (rest : List Waiting) (p : MxNo) (k : WeirClass),
    s.clocked = true → s.pb[g].waiting = w :: rest → s.fld .weir g.val 0 ≤ s.pb[g].jobs.length →
    s.answersOn w.req p → s.pb[g].classes[w.cls] = some k →
    ∃ n, exec (.holdmaxDefer g) s = .next n ∧
      n.pb[g].waiting = (rest.filter fun v => v.req.id != w.req.id) ∧
      n.pb[g].classes[w.cls] = some (k.fill (k.avail + w.took)) ∧
      count (8 * w.cls.val + 2) n.pb[g].wcnt = count (8 * w.cls.val + 2) s.pb[g].wcnt + 1 ∧
      (∃ o q, n.mxt[p].queues[(2 : Fin 4)] = s.mxt[p].queues[(2 : Fin 4)] ++ [o] ∧ o.pkt = .rsp q ∧ q.h.tag = w.req.tag ∧
        q.h.dst = w.req.src ∧ q.code = 1 ∧ q.hint = BitVec.ofNat 16 (min w.hintCap.toNat (s.fld .weir g.val 1))) ∧
      (∀ h, h ≠ g → n.pb[h] = s.pb[h]) ∧ n.res = s.res) ∧
  (∀ (g : PbNo) (jsn : BitVec 48) (s : State) (e : JEntry),
    s.entry g jsn.toNat = some e → e.state = .recorded → e.mirrored = false →
    ∃ n, exec (.agemaxExpire g jsn) s = .next n ∧
      n.entry g jsn.toNat = some { e with
        state := .final, jout := 5, answers := [], words := e.words.map fun w => mkWord (poisonTag (tagOf w)) (dataOf w) } ∧
      (∀ j ∈ n.pb[g].jobs, j.jsn ≠ some jsn.toNat) ∧ count 9 n.journal.cnt = count 9 s.journal.cnt + 1 ∧
      (s.journal.attention.length < 64 →
        n.journal.attention = s.journal.attention ++ [{ jsn := jsn.toNat, jout := 5, port := g }])) ∧
  (∀ (g : PbNo) (jsn : BitVec 48) (s : State) (e : JEntry),
    s.entry g jsn.toNat = some e →
    (e.state = .final → s.outAcked e = true →
      ∃ n, exec (.entryRetire g jsn) s = .next n ∧ n.entry g jsn.toNat = none ∧
        (∀ (h : PbNo) (i : Nat), (h, i) ≠ (g, jsn.toNat) → n.entry h i = s.entry h i) ∧
        (∀ q, e.who = .src q → e.hasWseq = true → n.journal.reqrs = s.journal.reqrs.map fun x =>
          if x.src = q then { x with floor := some (match x.floor with
            | none => e.wseq
            | some f => if 1 ≤ (e.wseq - f).toNat ∧ (e.wseq - f).toNat ≤ 2 ^ 31 - 1 then e.wseq else f) } else x) ∧
        (e.hasWseq = false → n.journal.reqrs = s.journal.reqrs) ∧ { n with journal := s.journal } = s) ∧
    (e.state ≠ .final ∨ s.outAcked e = false → ∃ n, exec (.entryRetire g jsn) s = .next n ∧ n = s)) ∧
  (∀ (g : PbNo) (jsn : BitVec 48) (s : State) (e : JEntry),
    s.entry g jsn.toNat = some e → e.mirrored = false →
    (s.mirrorPeers g &&& ~~~e.recAck) ≠ 0 ∨ (e.state = .final ∧ s.outAcked e = false) →
    (∀ t, s.waitsFor evGroup t = false) →
    ∃ n, exec (.mirrorTimeout g jsn) s = .next n ∧ n = { s with seq := { s.seq with sticky := s.seq.sticky ||| 0x0200 } })

/-! ### Parene ports (Chapters 8 and 9) -/

/-- R71, R190, R196, R198 to R200, R206 to R214, R239, R241, R243, R249, Table 13.5: bus requests, grants and tenures, interrupt
levels and gaps, the reset pulse, the observation and external reset. -/
def Obligations.PareneArbitrationAndReset : Prop :=
  ∀ (g : PbNo) (s : State),
    (∀ low : Bool,
      (s.pb[g].listens = true →
        ∃ n, exec (.busRequest ⟨g, low⟩) s = .next n ∧ PortBecomes s n g { s.pb[g] with br := low }) ∧
      (s.pb[g].listens = false → ∃ n, exec (.busRequest ⟨g, low⟩) s = .next n ∧ n = s)) ∧
    (s.pb[g].granted = true →
      ∃ n, exec (.grantNotake g) s = .next n ∧ PortBecomes s n g
        { s.pb[g] with granted := false, pins := { s.pb[g].pins with bg := some true }, cnt := bump 14 s.pb[g].cnt }) ∧
    (s.pb[g].tenure ≠ none → s.pb[g].tgt = .idle → s.pb[g].disabling = false →
      ∃ n, exec (.cardTenureEnd g) s = .next n ∧
        PortBecomes s n g { s.pb[g] with tenure := none, tenOver := false, ownSince := 0, abortNext := false }) ∧
    (∀ l : BitVec 3, s.pb[g].listens = true → l ≠ 0 →
      ∃ n, exec (.irqPending g l) s = .next n ∧
        PortBecomes s n g { s.pb[g] with irqPend := s.pb[g].irqPend ||| (1#8 <<< l.toNat) }) ∧
    (∀ l : BitVec 3,
      (∃ n, exec (.irqRelease g l) s = .next n ∧
        PortBecomes s n g { s.pb[g] with irqPend := s.pb[g].irqPend &&& ~~~(1#8 <<< l.toNat) }) ∧
      ∃ n, exec (.iackgapEnd g l) s = .next n ∧
        PortBecomes s n g { s.pb[g] with iackGap := s.pb[g].iackGap &&& ~~~(1#8 <<< l.toNat) }) ∧
    (s.pb[g].phase = .pulse →
      ∃ n, exec (.rstpulseEnd g) s = .next n ∧
        PortBecomes s n g { s.pb[g] with phase := .resetWait, pins := { s.pb[g].pins with sysrstLow := false } }) ∧
    (s.pb[g].phase = .resetWait →
      ∃ n, exec (.resetWaitEnd g) s = .next n ∧ PortBecomes s n g { s.pb[g] with phase := .observing }) ∧
    (s.pb[g].phase = .observedWait →
      ∃ n, exec (.resetWaitEnd g) s = .next n ∧ PortBecomes s n g { s.pb[g] with phase := .normal }) ∧
    (∀ ph, (s.pb[g].phase = .observing ∧ ph = PbPhase.normal) ∨ (s.pb[g].phase = .resetWait ∧ ph = PbPhase.observedWait) →
      s.group.takeover[g] = none →
      (s.pb[g].ext = .none →
        ∃ n, exec (.observationEnd g) s = .next n ∧ PortBecomesAwake s n g
          { s.pb[g] with phase := ph, irqDrive := s.pb[g].irqDrive ||| s.pb[g].irqRec, irqRec := 0,
                         pins := { s.pb[g].pins with irqLow := s.pb[g].irqDrive ||| s.pb[g].irqRec } }) ∧
      (s.pb[g].ext ≠ .none →
        ∃ n, exec (.observationEnd g) s = .next n ∧ PortBecomesAwake s n g { s.pb[g] with phase := ph })) ∧
    (s.pb[g].phase = .observing → s.group.takeover[g] ≠ none → s.stewardOf g = some s.self → s.mirrorOn = false →
      ∃ n, exec (.observationEnd g) s = .next n ∧ n.pb[g].phase = .normal ∧
        n.group = { s.group with takeover := s.group.takeover.set g none }) ∧
    (s.pb[g].listens = true → s.pb[g].pins.sysrstLow = false → s.pb[g].disabling = false → s.pb[g].cyc = none →
      s.pb[g].jobs = [] →
      ∃ n, exec (.sysrstLow g) s = .next n ∧ n.pb[g].ext = .low ∧ n.pb[g].br = false ∧ n.pb[g].granted = false ∧
        n.pb[g].tenure = none ∧ n.pb[g].irqPend = 0 ∧ n.pb[g].irqDrive = 0 ∧ n.pb[g].pins.irqLow = 0 ∧
        n.pb[g].irqRec = (s.pb[g].irqRec ||| s.pb[g].irqDrive) ∧ n.pb[g].tgt = .idle ∧
        count 16 n.pb[g].cnt = count 16 s.pb[g].cnt + 1 ∧ (∀ h, h ≠ g → n.pb[h] = s.pb[h]) ∧
        { n with pb := s.pb, seq := s.seq } = s) ∧
    (∀ (j : Job) (p : MxNo), s.pb[g].listens = true → s.pb[g].pins.sysrstLow = false → s.pb[g].disabling = false →
      s.pb[g].jobs = [j] → s.openWrite j p → j.blocks ≠ [] → j.verify = false →
      (s.pb[g].cyc = none ∨ ∃ c, s.pb[g].cyc = some c ∧ c.what = .job ∧ c.ending = none) →
      ∃ n, exec (.sysrstLow g) s = .next n ∧ n.pb[g].ext = .low ∧ n.pb[g].cyc = none ∧ n.pb[g].jobs = [] ∧
        Answered s n p j.req 6) ∧
    (s.pb[g].ext = .low →
      ∃ n, exec (.sysrstRise g) s = .next n ∧ PortBecomes s n g { s.pb[g] with ext := .wait }) ∧
    (s.pb[g].ext = .wait →
      ∃ n, exec (.sysrstResume g) s = .next n ∧ n.pb[g].ext = .none ∧
        n.pb[g].otok = s.pb[g].otok.map (fun x => (x.1, (x.2.1 + 1, 0))) ∧ n.pb[g].gen0 = s.pb[g].gen0 + 1 ∧
        (s.pb[g].enabled = true → s.pb[g].disabling = false → s.pb[g].phase = .normal →
          n.pb[g].irqDrive = (s.pb[g].irqDrive ||| s.pb[g].irqRec) ∧ n.pb[g].irqRec = 0 ∧
            n.pb[g].pins.irqLow = (s.pb[g].irqDrive ||| s.pb[g].irqRec)) ∧
        (∀ h, h ≠ g → n.pb[h] = s.pb[h]) ∧ { n with pb := s.pb } = s)

/-- R36, R43, R126, R190 to R192, R194 to R200, R205, R209, R210, R212, R214, R216, R225 to R227, R230, R239, R240, R267, R268: a
cycle boundary grants the bus, runs an interrupt acknowledge or starts the head job's block; DONE, RETRY, ERROR, MARKERR and a
timeout end a beat, a cycle or a request as Table 9.3 says; once the response lines are high the next beat starts or the cycle
is over. -/
def Obligations.PareneCyclesMastered : Prop :=
  (∀ (g : PbNo) (s : State) (b : Pb), s.pb[g].atBoundary = true → s.pb[g].disabling = false →
    b = { s.pb[g] with inForce := s.subs[subIdx .parene g.val].fields } →
    (s.pb[g].br = true → s.pb[g].jobs.head?.any Job.midHold = false →
      ((s.iackFor g = none ∧ s.readyJob g = none) ∨ s.fld .parene g.val (key 1 0) = 0 ∨
        s.fld .parene g.val (key 1 1) ≤ s.pb[g].ownSince) →
      ∃ n, exec (.pareneCycleStart g) s = .next n ∧
        PortBecomesAwake s n g { b with granted := true, pins := { b.pins with bg := some false }, cnt := bump 13 b.cnt }) ∧
    (∀ (l : BitVec 3) (r : Route), s.pb[g].br = false → s.pb[g].jobs.head?.any Job.midHold = false → s.iackFor g = some (l, r) →
      ∃ n, exec (.pareneCycleStart g) s = .next n ∧
        n.pb[g].cyc = some { what := .iack l r, aw := addressWords 2 l.toNat 1, word := l.toNat, left := 1, holdWait := false,
                             release := false, ending := none } ∧
        n.pb[g].pins.iack = some false ∧ n.pb[g].pins.dsLow = true ∧ count 3 n.pb[g].cnt = count 3 s.pb[g].cnt + 1 ∧
        (∀ h, h ≠ g → n.pb[h] = s.pb[h]) ∧ { n with pb := s.pb, seq := s.seq } = s) ∧
    (∀ (j j' : Job) (k : Block) (rest : List Job) (more : List Block), s.pb[g].br = false → s.iackFor g = none →
      s.pb[g].jobs = j :: rest → s.pb[g].retryWait = false → j' = j.recut (s.fld .parene g.val 7) → j'.blocks = k :: more →
      j.got = [] →
      (j.jsn = none →
        ∃ n, exec (.pareneCycleStart g) s = .next n ∧
          n.pb[g].cyc =
            some { what := .job, aw := addressWords (if j.req.win.io then 1 else 0) k.start k.beats, word := k.start,
                   left := k.beats, holdWait := false, release := false, ending := none } ∧
          n.pb[g].pins.asLow = true ∧ n.pb[g].pins.dsLow = true ∧
          n.pb[g].pins.wrLow = !(rqWrites j.req.kind && !j.verify) ∧
          n.pb[g].pins.ad = (if rqWrites j.req.kind && !j.verify then some (b.beatWord j.req k.start) else none) ∧
          count 3 n.pb[g].cnt = count 3 s.pb[g].cnt + 1 ∧ count 4 n.pb[g].cnt = count 4 s.pb[g].cnt + 1 ∧
          n.pb[g].ownSince = s.pb[g].ownSince + 1 ∧ n.pb[g].jobs = j' :: rest ∧ (∀ h, h ≠ g → n.pb[h] = s.pb[h]) ∧
          { n with pb := s.pb, seq := s.seq } = s) ∧
      (∀ (i : Nat) (e : JEntry), j.jsn = some i → s.entry g i = some e → e.state = .recorded → s.group.fenced = false →
        s.gateOpen g i = true →
        (s.entryBad e = false →
          ∃ n, exec (.pareneCycleStart g) s = .next n ∧ n.entry g i = some { e with state := .running } ∧
            (∃ c, n.pb[g].cyc = some c ∧ c.word = k.start ∧ c.left = k.beats)) ∧
        (s.entryBad e = true →
          ∃ n, exec (.pareneCycleStart g) s = .next n ∧ n.pb[g].cyc = none ∧ n.entry g i = some (e.final 7))))) ∧
  (∀ (g : PbNo) (ad : BitVec 18) (s : State) (c : MCycle) (j : Job) (k : Block) (rest : List Job) (more : List Block),
    s.atBeat g c j k rest more →
    (rqWrites j.req.kind = true → 2 ≤ c.left →
      ∃ n, exec (.beatResponse g ⟨true, false, false⟩ ad) s = .next n ∧
        n.pb[g].cyc = some { c with word := c.word + 1, left := c.left - 1, release := true } ∧ n.pb[g].pins.dsLow = false ∧
        (∀ h, h ≠ g → n.pb[h] = s.pb[h]) ∧ { n with pb := s.pb, seq := s.seq } = s) ∧
    (c.left ≤ 1 → more = [] → j.markBad = false →
      (∀ p, s.openWrite j p →
        ∃ n, exec (.beatResponse g ⟨true, false, false⟩ ad) s = .next n ∧ Answered s n p j.req 0 ∧
          n.pb[g].cyc = some { c with release := true, ending := some .ok } ∧
          n.pb[g].jobs = rest.filter (fun x => x.req.id != j.req.id) ∧ n.res = s.res) ∧
      (∀ (i : Nat) (e : JEntry), rqWrites j.req.kind = true → j.jsn = some i → s.entry g i = some e → e.state = .running →
        ∃ n, exec (.beatResponse g ⟨true, false, false⟩ ad) s = .next n ∧ n.entry g i = some (e.final 1) ∧
          (∀ x ∈ n.pb[g].jobs, x.jsn ≠ some i)) ∧
      (∀ p, j.req.kind = .rd → j.jsn = none → s.answersOn j.req p →
        ((j.req.win.width = .wide18 ∨ marksPass s.pb[g].markSense ad = true) →
          ∃ n o q, exec (.beatResponse g ⟨true, false, false⟩ ad) s = .next n ∧
            n.mxt[p].queues[(2 : Fin 4)] = s.mxt[p].queues[(2 : Fin 4)] ++ [o] ∧ o.pkt = .rsp q ∧ q.h.tag = j.req.tag ∧
            q.code = 0 ∧ q.offset = BitVec.ofNat 8 k.off ∧
            q.data = j.req.win.readWords (s.pbTrust j.req.win) j.req.addr k (j.got ++ [(c.word, ad)])) ∧
        (j.req.win.width ≠ .wide18 → marksPass s.pb[g].markSense ad = false → s.pb[g].markCount = false →
          ∃ n, exec (.beatResponse g ⟨true, false, false⟩ ad) s = .next n ∧ Answered s n p j.req 7 ∧
            count 9 n.pb[g].cnt = count 9 s.pb[g].cnt + 1))) ∧
    (∀ hold, j.req.win.hold = hold → j.retries < forced s.pb[g].inForce (if hold then 6 else 5) →
      ∃ n, exec (.beatResponse g ⟨false, true, false⟩ ad) s = .next n ∧ count 5 n.pb[g].cnt = count 5 s.pb[g].cnt + 1 ∧
        n.pb[g].jobs = { j with retries := j.retries + 1 } :: rest ∧
        (hold = true → n.pb[g].cyc = some { c with release := true, holdWait := true }) ∧
        (hold = false → n.pb[g].cyc = some { c with release := true, ending := some .ok } ∧ n.pb[g].retryWait = true) ∧
        (∀ h, h ≠ g → n.pb[h] = s.pb[h]) ∧ { n with pb := s.pb, seq := s.seq } = s) ∧
    (∀ p, s.openWrite j p →
      (forced s.pb[g].inForce (if j.req.win.hold then 6 else 5) ≤ j.retries →
        ∃ n, exec (.beatResponse g ⟨false, true, false⟩ ad) s = .next n ∧ Answered s n p j.req 6 ∧
          n.pb[g].jobs = rest.filter (fun x => x.req.id != j.req.id)) ∧
      (∀ row ∈ ([(⟨false, false, true⟩, 5, 7), (⟨true, false, true⟩, 5, 7), (⟨false, true, true⟩, 7, 8)] :
          List (BeatLines × BitVec 4 × Nat)),
        ∃ n, exec (.beatResponse g row.1 ad) s = .next n ∧ Answered s n p j.req row.2.1 ∧
          count row.2.2 n.pb[g].cnt = count row.2.2 s.pb[g].cnt + 1 ∧
          n.pb[g].jobs = rest.filter (fun x => x.req.id != j.req.id)) ∧
      ∃ n, exec (.busTimeout g) s = .next n ∧ Answered s n p j.req 6 ∧ n.pb[g].cyc = none ∧
        count 6 n.pb[g].cnt = count 6 s.pb[g].cnt + 1 ∧ n.pb[g].jobs = rest.filter (fun x => x.req.id != j.req.id))) ∧
  (∀ (g : PbNo) (ad : BitVec 18) (s : State) (c : MCycle) (l : BitVec 3) (r : Route),
    s.pb[g].cyc = some c → c.what = .iack l r → c.release = false → s.pb[g].pins.dsLow = true → s.pb[g].releasing = false →
    s.hcb.phase ≠ .zeroised →
    (marksPass s.pb[g].markSense ad = true ∨ s.pb[g].markCount = true) →
    (r.isLocal = false →
      ∃ n o, exec (.beatResponse g ⟨true, false, false⟩ ad) s = .next n ∧
        n.mxt[r.mxport].queues[(0 : Fin 4)] = s.mxt[r.mxport].queues[(0 : Fin 4)] ++ [o] ∧
        (∃ q, o.pkt = .rq .int q ∧ q.addr = r.addr ∧ q.data = [constWord (intData (ad.extractLsb' 0 8) l g)]) ∧
        n.pb[g].iackGap = (s.pb[g].iackGap ||| (1#8 <<< l.toNat)) ∧ n.res = s.res) ∧
    (r.isLocal = true →
      ∃ n, exec (.beatResponse g ⟨true, false, false⟩ ad) s = .next n ∧
        n.res.word r.deliveryWord = mkWord (mkTag (portOrigin g) 3 true false) (intData (ad.extractLsb' 0 8) l g) ∧
        n.mxt = s.mxt)) ∧
  (∀ (g : PbNo) (s : State) (c : MCycle), s.pb[g].cyc = some c → c.release = true →
    (c.ending ≠ none → s.pb[g].disabling = false →
      ∃ n, exec (.responseRelease g) s = .next n ∧ PortBecomes s n g { s.pb[g] with cyc := none, pins := s.pb[g].pins.idle }) ∧
    (c.ending = none → c.holdWait = true →
      ∃ n, exec (.responseRelease g) s = .next n ∧ PortBecomes s n g { s.pb[g] with cyc := some { c with release := false } }) ∧
    (∀ (j : Job) (k : Block) (rest : List Job) (more : List Block), c.ending = none → c.holdWait = false →
      s.pb[g].jobs = j :: rest → j.blocks = k :: more →
      ∃ n, exec (.responseRelease g) s = .next n ∧ n.pb[g].cyc = some { c with release := false } ∧
        count 4 n.pb[g].cnt = count 4 s.pb[g].cnt + 1 ∧ n.pb[g].pins.dsLow = true ∧
        n.pb[g].pins.ad = (if rqWrites j.req.kind && !j.verify then some (s.pb[g].beatWord j.req c.word) else none) ∧
        (∀ h, h ≠ g → n.pb[h] = s.pb[h]) ∧ { n with pb := s.pb } = s)) ∧
  (∀ (g : PbNo) (s : State),
    ((∀ c, s.pb[g].cyc = some c → c.holdWait = false) →
      ∃ n, exec (.retryWaitEnd g) s = .next n ∧ PortBecomes s n g { s.pb[g] with retryWait := false }) ∧
    (∀ (c : MCycle) (j : Job) (k : Block) (rest : List Job) (more : List Block), s.pb[g].cyc = some c → c.holdWait = true →
      c.release = false → s.pb[g].jobs = j :: rest → j.blocks = k :: more →
      ∃ n, exec (.retryWaitEnd g) s = .next n ∧ n.pb[g].cyc = some { c with holdWait := false } ∧ n.pb[g].pins.dsLow = true ∧
        count 4 n.pb[g].cnt = count 4 s.pb[g].cnt + 1) ∧
    (∀ c : CardCycle, s.pb[g].cyc = none → s.pb[g].observes = true → s.pb[g].pins.answering = false → s.pb[g].tgt = .data c →
      c.dsLow = true →
      ∃ n, exec (.busTimeout g) s = .next n ∧ n.pb[g].pins.berrLow = true ∧ count 10 n.pb[g].cnt = count 10 s.pb[g].cnt + 1 ∧
        n.pb[g].tgt = .data c ∧ (∀ h, h ≠ g → n.pb[h] = s.pb[h]) ∧ { n with pb := s.pb, seq := s.seq } = s) ∧
    (s.pb[g].cyc = none → s.pb[g].observes = true → s.pb[g].pins.answering = false → s.pb[g].tgt = .stray true →
      ∃ n, exec (.busTimeout g) s = .next n ∧ PortBecomesAwake s n g
        { s.pb[g] with pins := { s.pb[g].pins with berrLow := true }, cnt := bump 10 s.pb[g].cnt }) ∧
    (s.pb[g].cyc = none → s.pb[g].tgt = .stray false → ∃ n, exec (.busTimeout g) s = .next n ∧ n = s.wake))

/-- R34, R35, R119, R190, R202 to R204, R209, R211, R213, R216, R222, R228, R229, R233, R234, R241, R343, R368: a card's cycle as
the port follows it, from its address words to its last beat: claimed or not, refused, retried, its requests issued, its reads
answered and its interrupt acknowledged. -/
def Obligations.PareneCardCycles : Prop :=
  (∀ (g : PbNo) (ad : BitVec 18) (wr : Bool) (s : State) (b : Pb), s.pb[g].observes = true → s.pb[g].cyc = none →
    s.pb[g].tgt = .idle → b = { s.pb[g] with inForce := s.subs[subIdx .parene g.val].fields, tgt := .first ad wr } →
    (s.pb[g].granted = true →
      ∃ n, exec (.cardAddressStrobe g ad wr) s = .next n ∧ PortBecomes s n g
        { b with granted := false, tenure := some 1, tenOver := false, pins := { b.pins with bg := some true } }) ∧
    (s.pb[g].granted = false → s.pb[g].tenure = none →
      ∃ n, exec (.cardAddressStrobe g ad wr) s = .next n ∧ PortBecomes s n g b) ∧
    (∀ k, s.pb[g].granted = false → s.pb[g].tenure = some k →
      ((s.pb[g].tenOver = true ∨ k + 1 ≤ s.fld .parene g.val (key 1 2)) →
        ∃ n, exec (.cardAddressStrobe g ad wr) s = .next n ∧ PortBecomes s n g { b with tenure := some (k + 1) }) ∧
      (s.pb[g].tenOver = false → s.fld .parene g.val (key 1 2) < k + 1 →
        ∃ n, exec (.cardAddressStrobe g ad wr) s = .next n ∧ PortBecomes s n g
          { b with tenure := some (k + 1), tenOver := true, abortNext := s.fld .parene g.val (key 1 3) == 1, cnt := bump 15 b.cnt }))) ∧
  (∀ (g : PbNo) (s : State),
    (∀ w wr, s.pb[g].tgt = .first w wr →
      ∃ n, exec (.cardAsRise g) s = .next n ∧ PortBecomes s n g { s.pb[g] with tgt := .gap w wr }) ∧
    (∀ c, s.pb[g].tgt = .data c → s.pb[g].disabling = false →
      ∃ n, exec (.cardAsRise g) s = .next n ∧ PortBecomes s n g
        { s.pb[g] with tgt := .idle, acc := s.pb[g].acc.filter fun a => a.delayed, pins := s.pb[g].pins.endBeat }) ∧
    (∀ low, s.pb[g].tgt = .stray low → s.pb[g].disabling = false →
      ∃ n, exec (.cardAsRise g) s = .next n ∧ PortBecomes s n g
        { s.pb[g] with tgt := .idle, acc := s.pb[g].acc.filter fun a => a.delayed, pins := s.pb[g].pins.endBeat }) ∧
    (∀ w wr, s.pb[g].tgt = .gap w wr →
      ∃ n, exec (.straycycGap g) s = .next n ∧
        PortBecomes s n g { s.pb[g] with tgt := .idle, cnt := bump 11 s.pb[g].cnt })) ∧
  (∀ (g : PbNo) (w ad : BitVec 18) (wr : Bool) (s : State) (a : Nat) (c : CardCycle), s.pb[g].tgt = .gap w wr →
    s.pb[g].observes = true → a = 4096 * awAddr w + awAddr ad →
    c = { space := awSpace w, addr := a, beats := awBeats w, wr := wr, idx := 0, win := none, mode := .access, data := [],
          dsLow := false } →
    (∀ wr' : Bool, (decodable w ad = false ∨ wr' ≠ wr) →
      ∃ n, exec (.cardSecondAddress g ⟨ad, wr'⟩) s = .next n ∧
        PortBecomes s n g { s.pb[g] with tgt := .stray false, cnt := bump 11 s.pb[g].cnt }) ∧
    (decodable w ad = true →
      (s.cardWin g (awSpace w) a = none →
        ∃ n, exec (.cardSecondAddress g ⟨ad, wr⟩) s = .next n ∧ PortBecomes s n g { s.pb[g] with tgt := .data c }) ∧
      (∀ (i : Nat) (v : Win), s.cardWin g (awSpace w) a = some (i, v) → s.pb[g].acc = none → s.pb[g].deferHold = [] →
        (wr = true →
          ∃ n, exec (.cardSecondAddress g ⟨ad, wr⟩) s = .next n ∧
            PortBecomes s n g { s.pb[g] with tgt := .data { c with win := some (i, v) } }) ∧
        (wr = false → s.cardStops g false = true →
          ∃ n, exec (.cardSecondAddress g ⟨ad, wr⟩) s = .next n ∧
            n.pb[g].tgt = .data { c with win := some (i, v), mode := .refuse } ∧ n.mxt = s.mxt) ∧
        (∀ (addr len : Nat) (tag : BitVec 10), wr = false → s.cardStops g false = false → s.pb[g].ewaOut = [] →
          s.eddyOut g < 64 → v.cardRanges a (v.beatsIn a (awBeats w)) = [(addr, len)] → s.freeTag v.mxport = some tag →
          ∃ n o q, exec (.cardSecondAddress g ⟨ad, wr⟩) s = .next n ∧
            n.mxt[v.mxport].queues[(1 : Fin 4)] = s.mxt[v.mxport].queues[(1 : Fin 4)] ++ [o] ∧ o.pkt = .rq .rd q ∧
            q.addr = BitVec.ofNat 48 addr ∧ q.h.len = BitVec.ofNat 9 len ∧ q.h.tag = tag ∧
            n.pb[g].tgt = .data { c with win := some (i, v) } ∧ n.res = s.res)))) ∧
  (∀ (g : PbNo) (ad : BitVec 18) (s : State) (c d : CardCycle), s.pb[g].observes = true → s.pb[g].cyc = none →
    s.pb[g].tgt = .data c → c.dsLow = false → d = { c with dsLow := true } →
    (s.pb[g].abortNext = false →
      ∃ n, exec (.cardDataStrobe g ⟨ad, !c.wr⟩) s = .next n ∧ PortBecomes s n g
        { s.pb[g] with tgt := .stray true, acc := s.pb[g].acc.filter fun a => a.delayed, cnt := bump 11 s.pb[g].cnt }) ∧
    (s.pb[g].abortNext = true → s.pb[g].tenure ≠ none →
      ∃ n, exec (.cardDataStrobe g ⟨ad, c.wr⟩) s = .next n ∧ PortBecomes s n g
        { s.pb[g] with tgt := .data d, abortNext := false, pins := { s.pb[g].pins with berrLow := true } }) ∧
    (s.pb[g].abortNext = false →
      (c.space ≠ 2 → c.win = none →
        ∃ n, exec (.cardDataStrobe g ⟨ad, c.wr⟩) s = .next n ∧ PortBecomes s n g { s.pb[g] with tgt := .data d }) ∧
      (c.space = 2 → s.pb[g].irqDrive.getLsbD (c.addr % 8) = true →
        ∃ n, exec (.cardDataStrobe g ⟨ad, c.wr⟩) s = .next n ∧ PortBecomes s n g
          { s.pb[g] with tgt := .data d, pins := { s.pb[g].pins.setDir true with
              ackLow := true,
              ad := some (withMarks s.pb[g].markSense s.pb[g].markZero ((s.vectorOf g (c.addr % 8)).setWidth 16)) } }) ∧
      (c.space = 2 → s.pb[g].irqDrive.getLsbD (c.addr % 8) = false →
        ∃ n, exec (.cardDataStrobe g ⟨ad, c.wr⟩) s = .next n ∧ PortBecomes s n g
          { s.pb[g] with tgt := .data d, pins := { s.pb[g].pins with iack := some false } }) ∧
      (∀ (i : Nat) (v : Win), c.space ≠ 2 → c.win = some (i, v) → v.holds (c.addr + c.idx) = true →
        (∀ counted, c.mode = .retry counted →
          ∃ n, exec (.cardDataStrobe g ⟨ad, c.wr⟩) s = .next n ∧ PortBecomes s n g
            { s.pb[g] with tgt := .data d, pins := { s.pb[g].pins with rtyLow := true },
                           cnt := if counted then bump 17 s.pb[g].cnt else s.pb[g].cnt }) ∧
        (c.mode = .refuse →
          ∃ n, exec (.cardDataStrobe g ⟨ad, c.wr⟩) s = .next n ∧ PortBecomes s n g
            { s.pb[g] with tgt := .data d, pins := { s.pb[g].pins with berrLow := true } }) ∧
        (c.mode = .access → c.wr = true → v.width ≠ .wide18 → marksPass s.pb[g].markSense ad = false →
          s.pb[g].markCount = false →
          ∃ n, exec (.cardDataStrobe g ⟨ad, c.wr⟩) s = .next n ∧ PortBecomes s n g
            { s.pb[g] with tgt := .data d, pins := { s.pb[g].pins with berrLow := true, rtyLow := true },
                           cnt := bump 9 s.pb[g].cnt }) ∧
        (∀ a : CardAccess, c.mode = .access → c.wr = true → (v.width = .wide18 ∨ marksPass s.pb[g].markSense ad = true) →
          c.data.length = c.idx + 1 → c.idx + 1 = v.beatsIn c.addr c.beats → s.pb[g].acc = some a → a.delayed = true →
          a.repeated c.space c.addr c.beats true = true → a.heldWord c.beats c.idx = some ad → a.writeAns = .done none →
          s.pb[g].deferHold = [] → s.pb[g].pins.answering = false →
          ∃ n, exec (.cardDataStrobe g ⟨ad, c.wr⟩) s = .next n ∧ n.pb[g].pins.ackLow = true ∧ n.pb[g].acc = none ∧ n.mxt = s.mxt) ∧
        (c.mode = .access → c.wr = true → (v.width = .wide18 ∨ marksPass s.pb[g].markSense ad = true) →
          c.data.length = c.idx →
          (c.idx + 1 ≠ v.beatsIn c.addr c.beats →
            ∃ n, exec (.cardDataStrobe g ⟨ad, c.wr⟩) s = .next n ∧ PortBecomes s n g
              { s.pb[g] with tgt := .data { d with data := c.data ++ [ad], idx := c.idx + 1 },
                             pins := { s.pb[g].pins with ackLow := true } }) ∧
          (c.idx + 1 = v.beatsIn c.addr c.beats → s.cardStops g true = true →
            ∃ n, exec (.cardDataStrobe g ⟨ad, c.wr⟩) s = .next n ∧ n.pb[g].pins.berrLow = true ∧ n.mxt = s.mxt) ∧
          (∀ addr len : Nat, c.idx + 1 = v.beatsIn c.addr c.beats → s.cardStops g true = false → s.pb[g].acc = none →
            s.pb[g].ewaOut = [] → s.pb[g].pins.answering = false → v.early = true → s.freeTag v.mxport ≠ none →
            s.vc0Room v.mxport = true →
            v.cardRanges c.addr (v.beatsIn c.addr c.beats) = [(addr, len)] →
            ∃ n o q, exec (.cardDataStrobe g ⟨ad, c.wr⟩) s = .next n ∧
              n.mxt[v.mxport].queues[(0 : Fin 4)] = s.mxt[v.mxport].queues[(0 : Fin 4)] ++ [o] ∧ o.pkt = .rq .wrp q ∧
              q.addr = BitVec.ofNat 48 addr ∧ q.h.len = BitVec.ofNat 9 len ∧
              q.data = (spanned addr len).map (v.cardWord (s.cardTag v) c.addr (c.data ++ [ad]) (addr, len)) ∧
              n.pb[g].pins.ackLow = true ∧ n.pb[g].acc = none ∧ n.res = s.res)) ∧
        (∀ (k : CardAccess) (x : BitVec 18), (c.mode = .access ∨ c.mode = .collect) → c.wr = false → s.pb[g].acc = some k →
          k.wr = false → s.pb[g].pins.answering = false →
          k.readAns s.pb[g].markSense s.pb[g].markZero c.idx = .done (some x) →
          ∃ n, exec (.cardDataStrobe g ⟨ad, c.wr⟩) s = .next n ∧ n.pb[g].pins.ackLow = true ∧ n.pb[g].pins.ad = some x ∧
            n.pb[g].tgt = .data { d with idx := c.idx + 1 } ∧ { n with pb := s.pb, res := s.res } = s ∧
            (k.errsAt c.idx = [] → n.res = s.res))))) ∧
  (∀ (g : PbNo) (ad : BitVec 18) (wr : Bool) (s : State), s.pb[g].observes = true → s.pb[g].cyc = none →
    (s.pb[g].tgt = .stray false → s.pb[g].abortNext = false →
      ∃ n, exec (.cardDataStrobe g ⟨ad, wr⟩) s = .next n ∧ PortBecomes s n g { s.pb[g] with tgt := .stray true }) ∧
    (s.pb[g].tgt = .stray true → s.pb[g].releasing = false →
      ∃ n, exec (.cardDsRise g) s = .next n ∧ n.pb[g].tgt = .stray false ∧ n.pb[g].pins = s.pb[g].pins.endBeat)) ∧
  (∀ (g : PbNo) (s : State) (c : CardCycle), s.pb[g].observes = true → s.pb[g].cyc = none → s.pb[g].tgt = .data c →
    s.pb[g].releasing = false →
    ∃ n, exec (.cardDsRise g) s = .next n ∧ n.pb[g].tgt = .data { c with dsLow := false } ∧
      n.pb[g].pins.ackLow = false ∧ n.pb[g].pins.rtyLow = false ∧ n.pb[g].pins.berrLow = false ∧ n.pb[g].pins.ad = none ∧
      (c.space = 2 → s.pb[g].pins.ackLow = true →
        n.pb[g].irqDrive = (s.pb[g].irqDrive &&& ~~~(1#8 <<< (c.addr % 8))) ∧
          n.pb[g].pins.irqLow = (s.pb[g].pins.irqLow &&& ~~~(1#8 <<< (c.addr % 8)))) ∧
      (c.space ≠ 2 → n.pb[g].irqDrive = s.pb[g].irqDrive) ∧ (∀ h, h ≠ g → n.pb[h] = s.pb[h]) ∧ { n with pb := s.pb } = s) ∧
  (∀ (g : PbNo) (s : State) (c : CardCycle) (a : CardAccess), s.pb[g].tgt = .data c → s.pb[g].acc = some a → c.dsLow = true →
    s.pb[g].pins.answering = false → c.win ≠ none → (c.mode = .access ∨ c.mode = .collect) →
    ∃ n, exec (.tgtrtyExpire g) s = .next n ∧ PortBecomes s n g
      { s.pb[g] with acc := some { a with delayed := true }, pins := { s.pb[g].pins with rtyLow := true },
                     cnt := bump 17 s.pb[g].cnt }) ∧
  (∀ (g : PbNo) (s : State) (a : CardAccess), s.pb[g].acc = some a →
    ((a.delayed = true ∧ ∀ r ∈ a.reqs, r.done = true) →
      ∃ n, exec (.dlyholdExpire g) s = .next n ∧
        PortBecomes s n g { s.pb[g] with acc := none, cnt := bump 18 s.pb[g].cnt }) ∧
    ((a.delayed = false ∨ ∃ r ∈ a.reqs, r.done = false) → ∃ n, exec (.dlyholdExpire g) s = .next n ∧ n = s)) ∧
  (∀ (g : PbNo) (s : State) (d : DeferHold) (l : List DeferHold), s.pb[g].deferHold = d :: l → (∀ e ∈ l, d.til ≤ e.til) →
    ∃ n, exec (.deferHintEnd g) s = .next n ∧ PortBecomes s n g { s.pb[g] with deferHold := l })

/-! ### Bridge groups and Plant Time (Chapter 13) -/

/-- R181, R206, R335 to R343, R349, R352, R353, Tables 13.3 to 13.6: HELLO makes a peer known and is answered; HEARTBEAT and its
absence say who is alive; PROPOSE, ACK and COMMIT install a view; LEAVE drops its sender; the timers send HELLO, HEARTBEAT and
TPROBE, drop a proposal and end a takeover's wait; TPROBE is answered by the reference and gives another member an offset. -/
def Obligations.GroupMembership : Prop :=
  (∀ (p : MxNo) (k : GrpPkt) (s : State) (b : HelloBody) (m : Fin 4), s.takesGrp p k = true → k.body = .hello b →
    m = k.sender.toFin → m ≠ s.self → s.claimsTaken m k.epoch b = false →
    ∃ n, exec (.hello p k) s = .next n ∧ n.mxt[p].rxPsn = s.mxt[p].rxPsn + 1 ∧ n.group.peers[m].hello = some b ∧
      n.group.peers[m].agrees = (s.disagreements k b).isEmpty ∧ n.group.joined = true ∧
      HoldsGrp n p k.sender fun x => x = .hello (s.modPeer m fun p => { p with hello := some b }).helloBody) ∧
  (∀ (p : MxNo) (k : GrpPkt) (s : State) (b : HeartBody) (m : Fin 4), s.takesGrp p k = true → k.body = .heartbeat b →
    m = k.sender.toFin → m ≠ s.self →
    (s.group.peers[m].agrees = true →
      ∃ n, exec (.heartbeat p k) s = .next n ∧ n.group.peers[m].alive = true ∧ n.group.peers[m].lastEpoch = k.epoch ∧
        n.group.peers[m].tstate = b.tstate ∧ n.group.peers[m].stew = b.stewards ∧ n.group.peers[m].svalid = b.svalid ∧
        n.group.peers[m].hello = s.group.peers[m].hello) ∧
    (s.group.peers[m].agrees = false →
      ∃ n, exec (.heartbeat p k) s = .next n ∧ n.group = s.group ∧ n.pb = s.pb ∧ n.time = s.time)) ∧
  (∀ (p : MxNo) (k : GrpPkt) (s : State) (mask : BitVec 4), s.takesGrp p k = true → k.body = .propose mask →
    (s.group.ackEpoch.toNat < k.epoch.toNat → mask.getLsbD s.self.val = true → mask.getLsbD k.sender.toNat = true →
      mask &&& ~~~s.seen = 0 →
      ∃ n, exec (.propose p k) s = .next n ∧ SendsGrp s n p k.sender .ack ∧
        n.group = { s.group with highEpoch := maxEpoch s.group.highEpoch k.epoch, ackEpoch := k.epoch, ackMask := mask } ∧
        { n with mxt := s.mxt, seq := s.seq, group := s.group } = s) ∧
    (k.epoch.toNat ≤ s.group.ackEpoch.toNat ∨ mask.getLsbD s.self.val = false ∨ mask.getLsbD k.sender.toNat = false ∨
      mask &&& ~~~s.seen ≠ 0 →
      ∃ n, exec (.propose p k) s = .next n ∧ n.mxt[p].queues = s.mxt[p].queues ∧
        n.group = { s.group with highEpoch := maxEpoch s.group.highEpoch k.epoch })) ∧
  (∀ (p : MxNo) (k : GrpPkt) (s : State) (q : Proposal) (acks : BitVec 4), s.takesGrp p k = true → k.body = .ack →
    s.group.proposal = some q → q.epoch = k.epoch → acks = setBit q.acks k.sender.toNat true →
    (q.mask &&& ~~~acks ≠ 0 →
      ∃ n, exec (.ack p k) s = .next n ∧ n.group = { s.group with proposal := some { q with acks := acks } } ∧ n.pb = s.pb) ∧
    (q.mask &&& ~~~acks = 0 →
      ∃ n, exec (.ack p k) s = .next n ∧ n.group.view = q.mask ∧ n.group.epoch = q.epoch ∧ n.group.proposal = none ∧
        count 7 n.group.cnt = count 7 s.group.cnt + 1 ∧
        ∀ m, m ∈ members q.mask → m ≠ s.self → HoldsGrp n p (BitVec.ofNat 2 m.val) fun x => x = .commit q.mask)) ∧
  (∀ (p : MxNo) (k : GrpPkt) (s : State) (mask : BitVec 4), s.takesGrp p k = true → k.body = .commit mask →
    (k.epoch = s.group.ackEpoch → mask = s.group.ackMask → k.epoch ≠ s.group.epoch → mask = s.seen →
      ∃ n, exec (.commit p k) s = .next n ∧ n.group.view = mask ∧ n.group.epoch = k.epoch ∧
        count 7 n.group.cnt = count 7 s.group.cnt + 1) ∧
    (k.epoch ≠ s.group.ackEpoch ∨ mask ≠ s.group.ackMask ∨ k.epoch = s.group.epoch →
      ∃ n, exec (.commit p k) s = .next n ∧ n.group = s.group ∧ n.pb = s.pb)) ∧
  (∀ (p : MxNo) (k : GrpPkt) (s : State) (m : Fin 4), s.takesGrp p k = true → k.body = .leave → m = k.sender.toFin →
    m ≠ s.self →
    ∃ n, exec (.leave p k) s = .next n ∧ n.group.peers[m].alive = false ∧ n.group.peers[m].left = true ∧
      n.group.peers[m].confAt = none ∧
      n.seen.getLsbD m.val = false) ∧
  (∀ (m : Fin 4) (s : State), s.clocked = true → s.group.joined = true → m ≠ s.self →
    ∃ n, exec (.heartbeatTimeout m) s = .next n ∧ n.group.peers[m].alive = false ∧ n.group.peers[m].confAt = none ∧
      n.seen.getLsbD m.val = false) ∧
  (∀ s : State, s.clocked = true → s.group.joined = true → s.group.admitted = false →
    ∃ n, exec .helloTimer s = .next n ∧ { n with mxt := s.mxt } = s ∧ ∀ p : MxNo, s.mxt[p].up = true →
      ∃ l, n.mxt[p].queues[(3 : Fin 4)] = s.mxt[p].queues[(3 : Fin 4)] ++ l ∧
        l.map QPkt.pkt = s.otherMembers.map fun m => .grp (s.grpPkt m 0 s.group.epoch (.hello s.helloBody))) ∧
  (∀ s : State, s.clocked = true → s.group.joined = true → s.power.entering = none →
    ∃ n, exec .heartbeatTimer s = .next n ∧ n.group.joined = true ∧ ∀ p : MxNo, s.mxt[p].up = true → ∀ m ∈ s.otherMembers,
      HoldsGrp n p (BitVec.ofNat 2 m.val) fun x => ∃ b, x = .heartbeat b ∧ b.view = n.group.view ∧
        b.ackEpoch = n.group.ackEpoch ∧ b.gstate = n.gstate ∧ b.tstate = n.time.state) ∧
  (∀ (s : State) (q : Proposal), s.group.joined = true → s.group.proposal = some q →
    (s.seen = s.group.view → s.leftView = false →
      ∃ n, exec .viewTimeout s = .next n ∧ n = { s with group := { s.group with proposal := none } }) ∧
    ((s.seen ≠ s.group.view ∨ s.leftView = true) → s.topOf (members s.seen) = some s.self → s.seen &&& ~~~(setBit 0 s.self.val true) ≠ 0 →
      ∃ n, exec .viewTimeout s = .next n ∧
        n.group = { s.group with
          highEpoch := s.group.highEpoch + 1, ackEpoch := s.group.highEpoch + 1, ackMask := s.seen,
          proposal := some { epoch := s.group.highEpoch + 1, mask := s.seen, acks := setBit 0 s.self.val true } } ∧
        ∀ p : MxNo, s.mxt[p].up = true → ∀ m ∈ members s.seen, m ≠ s.self →
          HoldsGrp n p (BitVec.ofNat 2 m.val) fun x => x = .propose s.seen)) ∧
  (∀ (p : MxNo) (k : GrpPkt) (s : State) (tx etx erx : Data) (m : Fin 4), s.takesGrp p k = true → k.body = .tprobe tx etx erx →
    m = k.sender.toFin →
    (s.isReference = true →
      ∃ n, exec (.tprobe p k) s = .next n ∧ SendsGrp s n p k.sender (.tprobe s.time.now tx s.time.now) ∧ n.time = s.time ∧
        n.group = s.group) ∧
    (∀ l, s.referenceOf = some m → m ≠ s.self → s.time.reference = BitVec.ofNat 2 m.val → s.seen = s.group.view →
      l = (if etx = BitVec.allOnes 64 then s.time.offsets else (offsetOf tx etx erx s.time.now :: s.time.offsets).take 4) →
      (∀ o ∈ l, o.natAbs ≤ 1000) →
      ∃ n, exec (.tprobe p k) s = .next n ∧ n.time.offsets = l ∧ n.time.echoTx = tx ∧ n.time.echoRx = s.time.now ∧
        n.time.probesLost = 0 ∧ n.time.now = s.time.now ∧
        (etx ≠ BitVec.allOnes 64 → forced s.time.inForce 0 ≠ 2 → n.time.steer = offsetOf tx etx erx s.time.now))) ∧
  (∀ (s : State) (m : Fin 4), s.clocked = true → s.group.joined = true → s.referenceOf = some m → m ≠ s.self →
    s.time.reference = BitVec.ofNat 2 m.val → s.seen = s.group.view →
    ∃ n, exec .tprobeTimer s = .next n ∧ n.time.probesLost = s.time.probesLost + 1 ∧ ∀ p : MxNo, s.mxt[p].up = true →
      HoldsGrp n p (BitVec.ofNat 2 m.val) fun x => x = .tprobe s.time.now s.time.echoTx s.time.echoRx) ∧
  (∀ (g : PbNo) (s : State), s.group.takeover[g] ≠ none → s.clocked = true →
    (s.stewardOf g ≠ some s.self →
      ∃ n, exec (.takeoverWaitEnd g) s = .next n ∧ n.group = { s.group with takeover := s.group.takeover.set g none } ∧
        n.pb = s.pb) ∧
    (s.stewardOf g = some s.self → s.pb[g].recorded = true → s.pb[g].releasing = false →
      ∃ n, exec (.takeoverWaitEnd g) s = .next n ∧ n.pb[g].enabled = true ∧ n.pb[g].phase = .observing ∧
        n.pb[g].pins.sysrstLow = false ∧ n.pb[g].pins.oe = some false ∧ (∀ h, h ≠ g → n.pb[h] = s.pb[h]) ∧
        { n with pb := s.pb, seq := s.seq } = s))

/-- R265, R269, R275, R336, R345 to R348, R369, Table 13.3: a forwarded request goes through the steward's stages and is answered to
the member that forwarded it; its answer, or the time without one, ends it; a record that a steward sends is kept and
acknowledged, and so is its outcome. -/
def Obligations.GroupForwarding : Prop :=
  (∀ (p : MxNo) (k : GrpPkt) (s : State) (kind : RqKind) (q : ReqPkt), s.takesGrp p k = true → fixedBody k = .fwdreq kind q →
    (s.group.view.getLsbD k.sender.toNat = false →
      ∃ n, exec (.fwdreq p k) s = .next n ∧ n.group = s.group ∧ n.pb = s.pb ∧ n.mxt[p].queues = s.mxt[p].queues) ∧
    (s.group.view.getLsbD k.sender.toNat = true →
      (∀ c, kind ≠ .int → (rqWrites kind = true → (spanned q.addr.toNat q.h.len.toNat).length ≤ q.data.length) →
        s.levCheck none kind q.h.src q.data = .deny c →
        ∃ n, exec (.fwdreq p k) s = .next n ∧ SendsGrp s n p k.sender (.fwdrsp 0xB 0 0 q.h.len []) ∧
          count c n.sec.cnt = count c s.sec.cnt + 1 ∧ n.pb = s.pb) ∧
      (∀ (r : Req) (c : Fin 8) (cl : WeirClass) (w : Win) (wno : Nat) (t : BitVec 2) (l : List Word),
        kind = .rd ∨ kind = .wrn ∨ kind = .wrp →
        (rqWrites kind = true → (spanned q.addr.toNat q.h.len.toNat).length ≤ q.data.length) →
        s.levCheck none kind q.h.src q.data = .pass t l → s.lookup q.addr.toNat q.h.len.toNat = some (wno, w) →
        r = { id := s.nextId, org := .peer k.sender.toFin, src := q.h.src, tag := k.h.tag, kind := kind, addr := q.addr.toNat,
              len := q.h.len.toNat, pair := q.h.pair, retx := q.h.retx, odom := q.odom, gen := q.otoken.extractLsb' 8 8,
              seq := q.otoken.extractLsb' 0 8, wseq := q.wseq, words := l, trust := t, wno := wno, win := w } →
        s.servable r w c cl →
        ∃ n, exec (.fwdreq p k) s = .next n ∧ WaitsServed s n r c cl ∧ n.res = s.res) ∧
      (∀ (g : PbNo) (level : Nat) (x : Route), kind = .int → q.data ≠ [] → s.routeFor q.addr = some (g, level, x) →
        s.stewardOf g = some s.self → s.group.fenced = false →
        ∃ n, exec (.fwdreq p k) s = .next n ∧
          n.pb[g] = s.pb[g].interrupt level ((dataOf (q.data.headD 0)).getLsbD 13) ∧ (∀ h, h ≠ g → n.pb[h] = s.pb[h])) ∧
      (rqWrites kind = true → q.data.length < (spanned q.addr.toNat q.h.len.toNat).length →
        ∃ n, exec (.fwdreq p k) s = .next n ∧
          n.group = { s.group with
            fwdIn := s.group.fwdIn ++ [{ sender := k.sender.toFin, tag := k.h.tag, kind := kind, pkt := q }] } ∧
          n.pb = s.pb))) ∧
  (∀ (p : MxNo) (k : GrpPkt) (s : State) (l : List Word) (q : FwdIn) (data : List Word) (c : Nat), s.takesGrp p k = true →
    fixedBody k = .fwddata l → s.group.fwdIn = [q] → q.sender = k.sender.toFin → q.tag = k.h.tag → rqWrites q.kind = true →
    data = q.pkt.data ++ l →
    (data.length < (spanned q.pkt.addr.toNat q.pkt.h.len.toNat).length →
      ∃ n, exec (.fwddata p k) s = .next n ∧
        n.group = { s.group with fwdIn := [{ q with pkt := { q.pkt with data := data } }] }) ∧
    ((spanned q.pkt.addr.toNat q.pkt.h.len.toNat).length ≤ data.length →
      s.levCheck none q.kind q.pkt.h.src data = .deny c →
      ∃ n, exec (.fwddata p k) s = .next n ∧ n.group = { s.group with fwdIn := [] } ∧
        SendsGrp s n p k.sender (.fwdrsp 0xB 0 0 q.pkt.h.len []) ∧ n.pb = s.pb)) ∧
  (∀ (p : MxNo) (k : GrpPkt) (s : State) (code : BitVec 4) (off : BitVec 8) (hint : BitVec 16) (len : BitVec 9) (l : List Word),
    s.takesGrp p k = true → fixedBody k = .fwdrsp code off hint len l →
    ((∀ q ∈ s.group.forwards, ridTag q.rid ≠ k.h.tag) →
      ∃ n, exec (.fwdrsp p k) s = .next n ∧ n.group = s.group ∧ n.mxt[p].queues = s.mxt[p].queues ∧ n.pb = s.pb) ∧
    (∀ (q : Forward) (r : MxNo), s.group.forwards = [q] → ridTag q.rid = k.h.tag → q.parts = [] → s.answersOn q.req r → off = 0 →
      len.toNat = q.req.len →
      ∃ n, exec (.fwdrsp p k) s = .next n ∧ n.group = { s.group with forwards := [] } ∧ Answered s n r q.req code)) ∧
  (∀ (s : State) (q : Forward) (r : MxNo), s.group.forwards = [q] → q.parts = [] → s.answersOn q.req r →
    ∃ n, exec (.forwardTimeout q.rid) s = .next n ∧ n.group.forwards = [] ∧ Answered s n r q.req 6 ∧
      count 9 n.group.cnt = count 9 s.group.cnt + 1 ∧ n.res = s.res) ∧
  (∀ (p : MxNo) (k : GrpPkt) (s : State) (a b c d e : Data) (l : List Word) (q : JrecIn) (x : JEntry), s.takesGrp p k = true →
    fixedBody k = .jrec a b c d e l →
    q = { sender := k.sender.toFin, eh0 := a, eh1 := b, eh2 := c, eh3 := d, eh4 := e, words := l } → x = q.entry (s.takeLines l.length) →
    (l.length < q.count →
      ∃ n, exec (.jrec p k) s = .next n ∧ n.group = { s.group with jrecIn := s.group.jrecIn ++ [q] } ∧
        n.journal = s.journal) ∧
    (q.count ≤ l.length → s.group.view.getLsbD k.sender.toFin.val = true →
      (s.candidates x.port).getLsbD s.self.val = true →
      (∀ t, s.entry x.port x.jsn = none → s.journalOn = true → linesFor l.length ≤ s.freeLines → s.mirrorReqr x = some t →
        ∃ n, exec (.jrec p k) s = .next n ∧ n.group = s.group ∧
          n.journal = { s.journal with entries := s.journal.entries ++ [x], reqrs := t,
                                       topJsn := s.journal.topJsn.set x.port (max s.journal.topJsn[x.port] x.jsn) } ∧
          (s.hcb.phase ≠ .zeroised → ∀ (i : Nat) (w : Word), x.image[i]? = some w → n.res.word (s.entryWord x i) = w) ∧
          SendsGrp s n p k.sender (.jack (BitVec.ofNat 48 x.jsn) (BitVec.ofNat 2 x.port.val) false)) ∧
      (s.entry x.port x.jsn ≠ none →
        ∃ n, exec (.jrec p k) s = .next n ∧ n.journal = s.journal ∧ n.group = s.group ∧ n.res = s.res ∧
          SendsGrp s n p k.sender (.jack (BitVec.ofNat 48 x.jsn) (BitVec.ofNat 2 x.port.val) false)) ∧
      (s.entry x.port x.jsn = none → (s.journalOn = false ∨ s.freeLines < linesFor l.length) →
        ∃ n, exec (.jrec p k) s = .next n ∧ n.journal = s.journal ∧ n.mxt[p].queues = s.mxt[p].queues ∧ n.res = s.res ∧
          n.group = { s.group with mirrorGot := s.group.mirrorGot &&& ~~~(1#4 <<< x.port.val),
                                   mirrorMiss := s.group.mirrorMiss ||| (1#4 <<< x.port.val) }))) ∧
  (∀ (p : MxNo) (k : GrpPkt) (s : State) (l : List Word) (q q' : JrecIn) (x : JEntry) (t : List JReqr), s.takesGrp p k = true →
    fixedBody k = .jrecx l → s.group.jrecIn = [q] → q.sender = k.sender.toFin → q' = { q with words := q.words ++ l } →
    x = q'.entry (s.takeLines q'.words.length) →
    (q'.words.length < q'.count →
      ∃ n, exec (.jrecx p k) s = .next n ∧ n.group = { s.group with jrecIn := [q'] } ∧ n.journal = s.journal) ∧
    (q'.count ≤ q'.words.length → s.group.view.getLsbD k.sender.toFin.val = true →
      (s.candidates x.port).getLsbD s.self.val = true → s.entry x.port x.jsn = none →
      s.journalOn = true → linesFor q'.words.length ≤ s.freeLines → s.mirrorReqr x = some t →
      ∃ n, exec (.jrecx p k) s = .next n ∧ n.group = { s.group with jrecIn := [] } ∧
        n.journal = { s.journal with entries := s.journal.entries ++ [x], reqrs := t,
                                     topJsn := s.journal.topJsn.set x.port (max s.journal.topJsn[x.port] x.jsn) } ∧
        (s.hcb.phase ≠ .zeroised → ∀ (i : Nat) (w : Word), x.image[i]? = some w → n.res.word (s.entryWord x i) = w) ∧
        SendsGrp s n p k.sender (.jack (BitVec.ofNat 48 x.jsn) (BitVec.ofNat 2 x.port.val) false))) ∧
  (∀ (p : MxNo) (k : GrpPkt) (s : State) (jsn : BitVec 48) (j : BitVec 4) (g : BitVec 2) (e : JEntry), s.takesGrp p k = true →
    k.body = .jout jsn j g → s.entry g.toFin jsn.toNat = some e →
    (e.mirrored = true →
      ∃ n, exec (.jout p k) s = .next n ∧ n.entry g.toFin jsn.toNat = some (e.final j) ∧
        SendsGrp s n p k.sender (.jack jsn g true) ∧ n.pb = s.pb) ∧
    (e.mirrored = false → ∃ n, exec (.jout p k) s = .next n ∧ n.journal = s.journal)) ∧
  (∀ (p : MxNo) (k : GrpPkt) (s : State) (jsn : BitVec 48) (g : BitVec 2) (outcome : Bool) (e : JEntry), s.takesGrp p k = true →
    k.body = .jack jsn g outcome → s.entry g.toFin jsn.toNat = some e →
    ∃ n, exec (.jack p k) s = .next n ∧
      n.entry g.toFin jsn.toNat = some (if outcome then { e with outAck := e.outAck ||| (1#4 <<< k.sender.toNat) }
                                        else { e with recAck := e.recAck ||| (1#4 <<< k.sender.toNat) }) ∧
      n.group = s.group ∧ n.pb = s.pb ∧ n.res = s.res)

/-! ### The host, power and security (Chapters 14 and 15) -/

/-- R14, R77, R361, R404 to R406, R408 to R413, Tables 15.8 to 15.11: what the host's commands and frames do, and how a load goes on to
RUN or to FAILED. -/
def Obligations.HostAndLoader : Prop :=
  (∀ s : State, s.hostServes = true →
    ((s.hcb.phase = .loader ∨ s.hcb.phase = .failed) →
      ∃ n, exec .start s = .next n ∧ n.hcb.phase = .receiving ∧ n.loader.stat = 1 ∧ n.loader.stream = [] ∧ n.loader.received = 0 ∧
        n.loader.failures = s.loader.failures ∧ n.res = s.res ∧ n.seq = s.seq) ∧
    ((s.hcb.phase = .receiving ∨ s.hcb.phase = .verifying) →
      (∃ n, exec .start s = .next n ∧ n.hcb.phase = .receiving ∧ n.loader.failures = s.loader.failures + 1 ∧
        n.loader.clearing = true ∧ n.loader.stream = []) ∧
      ∃ n, exec .abort s = .next n ∧ LoadFails s n 0x18) ∧
    (s.hcb.phase = .run → ∀ c ∈ [Instr.start, Instr.abort], exec c s = .next (s.setSdo (some []))) ∧
    (∃ n, exec .reset s = .next n ∧ ColdStart s n 8) ∧
    (s.hcb.otpStat ≠ 1 → s.hcb.phase ≠ .zeroised →
      ∃ n, exec .otp s = .next n ∧ n = { s with hcb := { s.hcb with otpStat := 1, sdo := some [] } })) ∧
  (∀ (s : State) (l k all : List Byte), s.hostServes = true → s.hcb.phase = .receiving → all = s.loader.fifo ++ l →
    k = (if all.length < 128 then l else l.take (max 128 (imgLength all) - s.loader.fifo.length)) →
    (s.loader.clearing = true → s.loader.fifo.length + k.length ≤ 4096 →
      ∃ n, exec (.loadfifo l) s = .next n ∧
        n = { s with loader := { s.loader with fifo := s.loader.fifo ++ k }, hcb := { s.hcb with sdo := some [] } }) ∧
    (s.loader.clearing = true → 4096 < s.loader.fifo.length + k.length →
      ∃ n, exec (.loadfifo l) s = .next n ∧ LoadFails s n 0x19) ∧
    (s.loader.clearing = false → s.loader.stream.length + l.length < 128 →
      ∃ n, exec (.loadfifo l) s = .next n ∧ n.hcb = { s.hcb with sdo := some [] } ∧ n.loader.stream = s.loader.stream ++ l ∧
        n.loader.received = s.loader.received + l.length ∧ n.res = s.res) ∧
    (∀ b, s.loader.clearing = false → l = [b] → s.loader.stream.length = 127 →
      ∃ n, exec (.loadfifo l) s = .next n ∧
        match headerCode s.rev (s.loader.stream ++ [b]) with
        | some c => LoadFails s n c
        | none => n.hcb.phase = .receiving ∧ n.loader.stream = s.loader.stream ++ [b])) ∧
  (∀ (s : State) (d : Data), s.hostServes = true →
    (s.hcb.mbIn.length < 16 →
      ∃ n, exec (.mbin d) s = .next n ∧ n.hcb = { s.hcb with mbIn := s.hcb.mbIn ++ [d], sdo := some [] } ∧
        { n with hcb := s.hcb, seq := s.seq } = s) ∧
    (16 ≤ s.hcb.mbIn.length →
      ∃ n, exec (.mbin d) s = .next n ∧ n = { s with hcb := { s.hcb with mbDrop := s.hcb.mbDrop + 1, sdo := some [] } })) ∧
  (∀ (s : State), s.hostServes = true →
    (∀ (w : Word) (r : List Word), s.hcb.mbOut = w :: r → (∀ t x, (s.thr t).wait ≠ .mbwr x) →
      ∃ n, exec .mbout s = .next n ∧ n.hcb = { s.hcb with mbOut := r, mbOutTag := 1#1 ++ tagOf w, sdo := some (bytesOf (dataOf w)) } ∧
        { n with hcb := s.hcb, seq := s.seq } = s) ∧
    (s.hcb.mbOut = [] →
      ∃ n, exec .mbout s = .next n ∧ n = { s with hcb := { s.hcb with mbOutTag := 0, sdo := some (List.replicate 8 0) } }) ∧
    (∃ n, exec .phase s = .next n ∧ n = { s with hcb := { s.hcb with
      phaseChanged := false, sdo := some (bytesOf (BitVec.ofNat 64 s.hcb.phase.number)) } }) ∧
    (∀ t : Thread, ∃ n, exec (.threadstat t) s = .next n ∧ n = { s with hcb := { s.hcb with
      stopped := s.hcb.stopped &&& ~~~(1#8 <<< t.val), sdo := some (bytesOf (BitVec.ofNat 64 (s.thr t).stat)) } }) ∧
    (∀ off : BitVec 16, off.toNat % 8 = 0 → off ≠ 0x0010 → off ≠ 0x0090 → (off.toNat < 0x0100 ∨ 0x0140 ≤ off.toNat) →
      ∃ n, exec (.mspiRead off 8) s = .next n ∧ n = s.setSdo (some (bytesOf (s.hcbReg off.toNat)))) ∧
    (s.part = .gx7204 → s.rev = .b →
      ∃ n, exec (.mspiRead 0 4) s = .next n ∧ n = s.setSdo (some [0x8D, 0x4B, 0x20, 0x17])) ∧
    (∃ n b, exec .mspiStatus s = .next n ∧ n = s.setSdo (some [b]) ∧
      (b.getLsbD 0 = true ↔ 4096 ≤ s.loader.fifo.length) ∧ (b.getLsbD 1 = true ↔ s.hcb.mbOut ≠ []) ∧
      (b.getLsbD 2 = true ↔ 16 ≤ s.hcb.mbIn.length) ∧ (b.getLsbD 3 = true ↔ s.hostIrq = true) ∧
      (b.extractLsb' 4 3).toNat = s.hcb.phase.number ∧ b.getLsbD 7 = false) ∧
    (∀ (off : BitVec 16) (l : List Byte), l.length < 8 → off.toNat + l.length ≤ 0x1000 →
      exec (.hcbWrite off l) s = .next (s.setSdo (some []))) ∧
    (∀ d, (∃ n, exec (.hcbWrite 0x0078 (bytesOf d)) s = .next n ∧
        n = { s with hcb := { s.hcb with hostMask := d &&& 0x1F, sdo := some [] } }) ∧
      (∃ n, exec (.hcbWrite 0x0308 (bytesOf d)) s = .next n ∧
        n = { s.setSdo (some []) with power := { s.power with wakeCfg := d &&& 0xE } }) ∧
      (∃ n, exec (.hcbWrite 0x0310 (bytesOf d)) s = .next n ∧
        n = { s.setSdo (some []) with power := { s.power with wakeAlarm := d } }) ∧
      (∀ d', ∃ n, exec (.hcbWrite 0x0308 (bytesOf d ++ bytesOf d')) s = .next n ∧
        n = { s.setSdo (some []) with power := { s.power with wakeCfg := d &&& 0xE, wakeAlarm := d' } }) ∧
      ∀ off : BitVec 16, off ∈ ([0x0000, 0x0008, 0x0010, 0x0020, 0x0028, 0x0030, 0x0040, 0x0068, 0x0070, 0x0080, 0x0090, 0x0098,
        0x00A0, 0x0100, 0x0138, 0x0200, 0x0278, 0x0318, 0x0320, 0x0400, 0x0600, 0x0608, 0x0700, 0x0760, 0x2000] :
          List (BitVec 16)) → exec (.hcbWrite off (bytesOf d)) s = .next (s.setSdo (some [])))) ∧
  (∀ s : State, s.hcb.phase = .boot → s.power.held = false →
    (s.power.warm = false →
      ∃ n, exec .bootComplete s = .next n ∧ n = { s with hcb := { s.hcb with phase := .loader, phaseChanged := true } }) ∧
    (s.power.warm = true →
      ∃ n, exec .bootComplete s = .next n ∧ n = { s with hcb := { s.hcb with phase := .verifying, phaseChanged := true } })) ∧
  (∀ s : State, s.hcb.phase = .verifying → s.power.warm = false →
    ∃ n, exec .loadVerifyDone s = .next n ∧
      match s.sec.otp.imageCode s.loader.stream with
      | some c => LoadFails s n c
      | none => ImageRuns n (s.recordOf s.loader.stream) ∧ n.res.data = s.res.data ∧ n.res.tags = s.res.tags) ∧
  (∀ s : State, s.hcb.phase = .verifying → s.power.warm = true →
    (∀ a, s.loader.record = some a → s.recordOk a = true →
      ∃ n, exec .warmStartCheckDone s = .next n ∧ ImageRuns n a ∧ n.res.data = s.res.data) ∧
    ((∀ a, s.loader.record = some a → s.recordOk a = false) →
      ∃ n, exec .warmStartCheckDone s = .next n ∧ n.hcb.phase = .failed ∧ n.loader.stat = 0x1A ∧ n.loader.clearing = true ∧
        n.seq = s.seq)) ∧
  (∀ c ∈ [Instr.failedClearDone, Instr.reservoirClearDone], ∀ s : State, s.loader.clearing = true →
    (s.hcb.phase = .failed →
      ∃ n, exec c s = .next n ∧ n.hcb.phase = .loader ∧ n.loader.clearing = false ∧ n.res.data = [] ∧ n.res.tags = [] ∧
        n.res.pages = [] ∧ n.res.ce = s.res.ce ∧ n.res.ue = s.res.ue) ∧
    (s.hcb.phase = .receiving → s.loader.fifo = [] →
      ∃ n, exec c s = .next n ∧ n.hcb = s.hcb ∧ n.loader = { s.loader with clearing := false } ∧ n.res.data = [] ∧
        n.res.tags = []))

/-- R139, R388, R395 to R399, R401 to R405, R416, Tables 15.3, 15.4, 15.6: mode requests, the entry into a low-power mode, the wake
sources, the resets and the reference clock. -/
def Obligations.PowerAndReset : Prop :=
  (∀ s : State, s.hostServes = true → s.hcb.phase ≠ .zeroised →
    (s.power.entering = none →
      exec .runRequest s = .next (s.setSdo (some [])) ∧
      (∃ n, exec .dozeRequest s = .next n ∧ n.power.mode = .run ∧ n.power.entering = some .doze ∧ n.power.busy = false) ∧
      (s.journal.entries ≠ [] →
        ∃ n, exec .retainRequest s = .next n ∧
          n = { s.setSdo (some []) with power := { s.power with busy := true, refusedJrnl := true } }) ∧
      (s.journal.entries = [] →
        ∃ n, exec .retainRequest s = .next n ∧ n.power.mode = .run ∧ n.power.entering = some .retain ∧ n.power.busy = false) ∧
      ((∀ g : PbNo, s.pb[g].phase = .off) →
        ∃ n, exec .dozeRequest s = .next n ∧
          n = { s.setSdo (some []) with
                       power := { s.power with entering := some .doze, busy := false, refusedJrnl := false },
                       seq := { s.seq with conf := s.seq.conf.map fun e => { e with draining := true, isOpen := false } } })) ∧
    (s.power.entering ≠ none →
      ∀ c ∈ [Instr.runRequest, Instr.dozeRequest, Instr.retainRequest],
        ∃ n, exec c s = .next n ∧
          n = { s.setSdo (some []) with power := { s.power with busy := true, refusedJrnl := false } }) ∧
    (∃ n, exec .hibernateRequest s = .next n ∧ n.power.entering = some .hibernate ∧ n.power.mode = .run) ∧
    (∀ m, ∃ n, exec (.laneoff m) s = .next n ∧ n = { s.setSdo (some []) with power := { s.power with laneOff := m } })) ∧
  (∀ s : State, s.power.mode = .doze → s.power.held = false → s.power.aonHeld = false → s.power.entering = none →
    s.power.wakeCfg.getLsbD 2 = false → s.hcb.phase = .doze →
    ∃ n, exec .runRequest s = .next n ∧ n.power.mode = .run ∧ n.hcb.phase = s.awakePhase ∧
      (s.gauge.visit = none → n.gauge.visit = none) ∧
      ∀ c, c < 20 → s.gauge.visit = some c → (s.fld .gauge 0 0).testBit c = true →
        n.gauge.visit = some c ∧ n.gauge.made = 0) ∧
  (∀ s : State, s.entryDone = true → s.power.wakeSeen = none →
    (s.power.entering = some .doze →
      ∃ n, exec .dozeEntryComplete s = .next n ∧ n.power.mode = .doze ∧ n.power.entering = none ∧ n.hcb.phase = .doze ∧
        (∀ p : MxNo, n.mxt[p].up = false) ∧ n.windows = s.windows ∧ n.subs = s.subs) ∧
    (s.power.entering = some .retain → (∀ p : MxNo, s.mxt[p].reqs = []) →
      ∃ n, exec .lowPowerEntryComplete s = .next n ∧ n.power.mode = .retain ∧ n.res.data = s.res.data ∧ n.res.tags = s.res.tags ∧
        n.loader.record = s.loader.record ∧ n.windows = [] ∧ n.time.now = s.time.now) ∧
    (s.power.entering = some .hibernate →
      ∃ n, exec .lowPowerEntryComplete s = .next n ∧ n.power.mode = .hibernate ∧ n.res = Reservoir.initial ∧ n.windows = [] ∧
        n.time.now = s.time.now)) ∧
  (∀ c ∈ [Instr.wakePin, Instr.wakeAlarm, Instr.wakeMspi], ∀ s : State, s.power.entering = none →
    (c = .wakeAlarm → s.power.wakeCfg.getLsbD 1 = true ∧ s.power.wakeAlarm.toNat ≤ s.time.now.toNat ∧
      (s.power.mode = .retain ∨ s.power.mode = .hibernate → s.power.crystal = true)) →
    (c = .wakeMspi → s.power.wakeCfg.getLsbD 2 = true) →
    (s.power.mode = .retain →
      ∃ n, exec c s = .next n ∧ n.power.held = true ∧ n.power.warm = true ∧ n.power.resetCause = 0x20 ∧ n.power.mode = .run ∧
        n.res.data = s.res.data ∧ n.res.tags = s.res.tags ∧ n.loader.record = s.loader.record ∧ n.windows = []) ∧
    (s.power.mode = .hibernate → ∃ n, exec c s = .next n ∧ ColdStart s n 0x10 ∧ n.power.mode = .run) ∧
    (s.power.mode = .run → exec c s = .next s)) ∧
  (∀ s : State, (s.power.wakeCfg.getLsbD 1 = false ∨ s.time.now.toNat < s.power.wakeAlarm.toNat ∨
        ((s.power.mode = .retain ∨ s.power.mode = .hibernate) ∧ s.power.crystal = false) → exec .wakeAlarm s = .next s) ∧
    (s.power.wakeCfg.getLsbD 2 = false → exec .wakeMspi s = .next s) ∧
    (s.power.wakeCfg.getLsbD 3 = false → ∀ l, exec (.wakeSignalDetect l) s = .next s)) ∧
  (∀ (l : LaneNo) (s : State), s.power.wakeCfg.getLsbD 3 = true → s.lanes[lanePort l].powered = true →
    (s.power.mode = .doze → s.power.entering = none →
      ∃ n, exec (.wakeSignalDetect l) s = .next n ∧ n.power.mode = .run ∧ n.power.lastWake = 3) ∧
    (s.power.entering = some .doze →
      ∃ n, exec (.wakeSignalDetect l) s = .next n ∧ n = { s with power := { s.power with wakeSeen := some .signal } })) ∧
  (∀ s : State,
    (s.power.aonHeld = false →
      (∃ n, exec .rstLow s = .next n ∧ ColdStart s n 4 ∧ n.power.rstLow = true ∧ n.power.laneOff = s.power.laneOff ∧
        n.sec.tamperRec = s.sec.tamperRec) ∧
      ∃ n, exec .supplyDrop s = .next n ∧ ColdStart s n 2 ∧ n.power.supplyLow = true ∧ n.power.wakeCfg = s.power.wakeCfg) ∧
    (∃ n, exec .aonReset s = .next n ∧ n.power.aonHeld = true ∧ n.power.resetCause = 1 ∧ n.time.now = 0 ∧ n.power.wakeCfg = 0 ∧
      n.power.laneOff = 0 ∧ n.sec.tamperRec = 0 ∧ n.sec.otp = s.sec.otp ∧ n.res = Reservoir.initial) ∧
    (∃ n, exec .aonResetRelease s = .next n ∧ n = { s with power := { s.power with aonHeld := false } }) ∧
    (∀ b, s.power.held = true → s.power.aonHeld = false →
      ∃ n, exec (.mainResetRelease b) s = .next n ∧ n.power.held = false ∧ n.hcb.phase = .boot ∧ n.hcb.bootsel = b ∧
        n.res = s.res ∧ n.seq = s.seq ∧
        ∀ p : MxNo, s.hasMx p.val = true → s.power.laneOff.getLsbD p.val = false →
          n.lanes[p].powered = true ∧ n.lanes[p].stage = 1) ∧
    (∃ n, exec .refclkLoss s = .next n ∧ n = { s with power := { s.power with refclk := false } }) ∧
    ∃ n, exec .refclkReturn s = .next n ∧ n = { s with power := { s.power with refclk := true } })

/-- R14, R360, R361, R384 to R389, R391, Tables 14.8, 14.9: a sensor that trips is recorded, and zeroises where its response says so;
a debug challenge serves one attempt, and level 2 erases the keys; the TAP takes its instructions; an OTP command blows its fuses
or is refused. -/
def Obligations.SecurityUnit : Prop :=
  (∀ (x : TamperSensor) (s : State), s.power.aonHeld = false → s.power.held = false →
    (s.power.mode = .run ∨ s.power.mode = .doze) →
    (s.sec.otp.zeroises x = false →
      ∃ n, exec (.tamperTrip x) s = .next n ∧
        n.sec.tamperRec = (s.sec.tamperRec ||| (1#5 <<< tamperBit x)) ∧ n.sec.tamperTime = s.time.now ∧
        n.sec.tampers = s.sec.tampers + 1 ∧ n.sec.leftEval.getLsbD 6 = true ∧ { n with sec := s.sec } = s) ∧
    (s.sec.otp.zeroises x = true → s.hcb.phase ≠ .zeroised →
      ∃ n, exec (.tamperTrip x) s = .next n ∧ n.hcb.phase = .zeroised ∧ n.res.data = [] ∧ n.res.tags = [] ∧
        (∀ i : Fin 8, n.sec.slots[i] = none) ∧ n.sec.identity = false ∧ n.sec.drbg = false ∧
        (∀ p : MxNo, n.mxt[p].txKey = none ∧ n.mxt[p].nextKey = none ∧ n.mxt[p].up = false) ∧
        (∀ t, (n.thr t).run ≠ .running) ∧ (∀ g : ChanNo, n.chans[g].ens = 0) ∧ n.loader.record = none ∧ n.hostIrq = true ∧
        n.sec.tamperRec = (s.sec.tamperRec ||| (1#5 <<< tamperBit x)))) ∧
  (∀ s : State, s.power.aonHeld = false → s.power.held = true →
    (∃ n, exec (.tamperTrip .mesh) s = .next n ∧ n.res.data = [] ∧ n.sec.tamperRec.getLsbD 3 = true) ∧
    exec (.tamperTrip .therm) s = .next s) ∧
  (∀ s : State, s.secLive = true →
    (s.sec.otp.life ≠ .retired → s.sec.holdTil ≤ s.time.now.toNat →
      ∃ n c, exec .debugChallenge s = .next n ∧ n.sec.challenge = some c ∧ n.sec.dbgLevel = s.sec.dbgLevel ∧ n.res = s.res ∧
        n.seq = s.seq) ∧
    (s.sec.otp.life = .retired ∨ s.time.now.toNat < s.sec.holdTil → exec .debugChallenge s = .next s) ∧
    (∀ (level : Byte) (k : PubKey) (r sg : Nat),
      (∀ c, s.sec.challenge = some c →
        ∃ n, exec (.debugLevelRequest level k r sg) s = .next n ∧ n = { s with sec := { s.sec with
          challenge := none, dbgReq := some { level := level, key := k, r := r, sg := sg, challenge := c } } }) ∧
      (s.sec.challenge = none → exec (.debugLevelRequest level k r sg) s = .next s)) ∧
    (∀ q, s.sec.dbgReq = some q →
      ∃ n, exec .debugVerifyDone s = .next n ∧ n.sec.dbgReq = none ∧ n.res = s.res ∧ n.seq = s.seq ∧
        (if s.sec.otp.grants q then
          n.sec.dbgLevel.toNat = max s.sec.dbgLevel.toNat q.level.toNat ∧ n.sec.refusals = 0 ∧ n.sec.leftEval.getLsbD 1 = true ∧
            (q.level = 2 → (∀ i : Fin 8, n.sec.slots[i] = none) ∧ n.sec.identity = false ∧
              ∀ p : MxNo, n.mxt[p].txKey = none ∧ n.mxt[p].nextKey = none)
         else n = { s with sec := { s.sec with
           dbgReq := none, refusals := s.sec.refusals + 1,
           holdTil := if 2 ≤ s.sec.refusals then s.time.now.toNat + 10 ^ 9 else s.sec.holdTil } }))) ∧
  (∀ s : State, s.tapOn = true →
    (∃ n, exec .idcode s = .next n ∧ { n with free := s.free } =
      { s with sec := { s.sec with tap := .idcode, tdo := (List.range 32).map s.idcode.testBit } }) ∧
    (∃ n, exec .bypass s = .next n ∧ { n with free := s.free } = { s with sec := { s.sec with tap := .bypass, tdo := [false] } }) ∧
    (∃ n, exec .samplePreload s = .next n ∧ { n with free := s.free, sec := { n.sec with tdo := s.sec.tdo } } =
        { s with sec := { s.sec with tap := if s.levelTwo then .sample else .bypass } } ∧
      (s.levelTwo = false → n.sec.tdo = [false])) ∧
    ∃ n, exec .extest s = .next n ∧ { n with free := s.free, sec := { n.sec with tdo := s.sec.tdo } } =
        { s with sec := { s.sec with tap := if s.levelTwo && !s.anyRunning then .extest else .bypass } } ∧
      ((s.levelTwo && !s.anyRunning) = false → n.sec.tdo = [false])) ∧
  (∀ s : State, s.hcb.otpStat = 1 → s.hcb.phase ≠ .zeroised →
    ∃ n, exec .otpCommandDone s = .next n ∧ n.hcb.otpDone = true ∧
      match s.sec.otp.run s.otpBytes with
      | none => n.hcb.otpStat = 3 ∧ n.sec = s.sec
      | some o => n.hcb.otpStat = 2 ∧ n.sec.otp = o ∧ (o.idWrap = false → n.sec.identity = false) ∧
        (o.life = .retired → n.sec.dbgLevel = 0 ∧ n.sec.challenge = none ∧ n.sec.dbgReq = none)) ∧
  (∀ s : State, s.hcb.otpStat = 1 → s.hcb.phase ≠ .zeroised → s.sec.otp.life = .provision → leAt s.otpBytes 0 4 = 0x50544F47 →
    zerosAt s.otpBytes 6 2 = true → leAt s.otpBytes 5 1 < 4 → leAt s.otpBytes 4 1 = 3 →
    s.sec.otp.secVerMin < leAt s.otpBytes 8 4 → leAt s.otpBytes 8 4 ≤ 64 →
    ∃ n, exec .otpCommandDone s = .next n ∧ n.hcb.otpStat = 2 ∧
      n.sec.otp = { s.sec.otp with secVerMin := leAt s.otpBytes 8 4 })

/-! ### The whole machine -/

/-- A step takes the command at the front of the queue and runs it with the queue's rest; with an empty queue the block idles
(log 10, the model's choice). -/
def Obligations.StepTakesTheFront : Prop :=
  (∀ (c : Instr) (rest : List Instr) (s : State), s.pending = c :: rest → step s = exec c { s with pending := rest }) ∧
  ∀ (s : State) (t : TimeSt), s.pending = [] → t = s.time.tick (forced s.time.inForce 2) →
    (s.time.steer = 0 → t.now = s.time.now + 1) ∧
    (s.power.aonHeld = true → step s = .next s) ∧
    (s.power.aonHeld = false →
      (s.power.mode = .doze → step s = .next { s with time := t }) ∧
      (s.power.mode = .run → s.power.entering = none → s.queuesEmpty = true →
        (∀ (p : MxNo), ∀ f ∈ s.mxt[p].flushes, f.wrp = none) →
        ∃ n, step s = .next n ∧ n.time = t ∧ (∀ g : ChanNo, n.mirror[g] = s.mirrorOf g) ∧
          { n with time := s.time, seq := s.seq, mirror := s.mirror } = s) ∧
      (s.power.mode = .retain ∨ s.power.mode = .hibernate →
        (s.power.crystal = false → step s = .next s) ∧
        (s.power.crystal = true →
          ∃ n, step s = .next n ∧ (n.time.now = s.time.now + 30517 ∨ n.time.now = s.time.now + 30518) ∧
            { n with time := s.time, power := s.power } = s)))

/-- R286: at reset, and after each event that resets the main domain, every engine is stopped, every channel has ENABLE 0, every
store entry is 0, every queue is empty and every flag is clear. -/
def Obligations.RiffleAtReset : Prop :=
  ∀ n : State, (n = State.reset ∨ ∃ s : State,
      (s.power.aonHeld = false ∧ (exec .rstLow s = .next n ∨ exec .supplyDrop s = .next n)) ∨ exec .aonReset s = .next n ∨
      (s.hostServes = true ∧ exec .reset s = .next n) ∨
      (s.power.entering = none ∧ (s.power.mode = .retain ∨ s.power.mode = .hibernate) ∧ exec .wakePin s = .next n)) →
    (∀ e : EngNo, n.engines[e].running = false ∧ (∀ i : Fin 128, n.engines[e].store[i] = 0) ∧ n.engines[e].flags = 0) ∧
    ∀ g : ChanNo, n.chans[g].cfg.enable = false ∧ n.chans[g].txq = [] ∧ n.chans[g].rxq = [] ∧ n.chans[g].flags = 0

/-- R25: the tag of a word that a sequencer operation produces from data-word operands, constant tag without any, and W0 as an
operand like any other. -/
def Obligations.MergedTags : Prop :=
  (∀ l : List Byte, l ≠ [] →
    tagOrigin (mergeTags l) = (if ∀ t ∈ l, tagOrigin t = tagOrigin (l.headD 0) then tagOrigin (l.headD 0) else 15) ∧
    (∃ t ∈ l, tagTrust (mergeTags l) = tagTrust t) ∧ (∀ t ∈ l, (tagTrust (mergeTags l)).toNat ≤ (tagTrust t).toNat) ∧
    (tagValid (mergeTags l) = true ↔ ∀ t ∈ l, tagValid t = true) ∧
    (tagPoison (mergeTags l) = true ↔ ∃ t ∈ l, tagPoison t = true)) ∧
  (tagOrigin (mergeTags []) = 0 ∧ tagTrust (mergeTags []) = 3 ∧ tagValid (mergeTags []) = true ∧
    tagPoison (mergeTags []) = false) ∧
  (∀ (s : State) (t : Thread), s.reg t 0 = 0) ∧
  (∀ l : List Byte, 0 ∈ l → tagValid (mergeTags l) = false ∧
    ((∃ t ∈ l, tagOrigin t ≠ 0) → tagOrigin (mergeTags l) = 15)) ∧
  (∀ row ∈ aluRows, ∀ (t : Thread) (f : FmtR) (s : State), f.imm9 = 0 → f.wd ≠ 0 →
    s.runs t (encR 0x02 row.2.1 f) [f.wa, f.wb] false = true →
    ∃ n, exec (row.1 t f) s = .next n ∧ tagOf (n.reg t f.wd) = mergeTags [tagOf (s.reg t f.wa), tagOf (s.reg t f.wb)]) ∧
  (∀ row ∈ immRows, ∀ (t : Thread) (f : FmtI) (s : State), f.wd ≠ 0 → s.runs t (encI row.2.1 f) [f.wa] false = true →
    ∃ n, exec (row.1 t f) s = .next n ∧ tagOf (n.reg t f.wd) = mergeTags [tagOf (s.reg t f.wa)])

/-- State.reset has what every step keeps; the parts of it that the spec gives (R7, R206, R251, R286, R404), and those that the
model chose (log 2, 3, 6): every register 0, PHASE BOOT. -/
def Obligations.ResetState : Prop :=
  State.reset.Inv ∧ State.reset.pending = [] ∧ (∀ (t : Thread) (r : Reg), State.reset.reg t r = 0) ∧
  (∀ t : Thread, (State.reset.thr t).run = .notStarted ∧ (State.reset.thr t).handler = 0xFFFFFFFF) ∧
  (∀ w, State.reset.res.word w = 0) ∧
  (∀ (u : Sub) (i : Nat), i < u.count → (State.reset.sub u i).unlocked = false ∧
    some (State.reset.sub u i).fields = profileFields u 0) ∧
  State.reset.windows = [] ∧ State.reset.routes = [] ∧ State.reset.rules = [] ∧ State.reset.orders = [] ∧
  (∀ g : PbNo, State.reset.pb[g].enabled = false ∧ State.reset.pb[g].pins = PbPins.highZ ∧ State.reset.pb[g].jsn = 1 ∧
    State.reset.pb[g].classes[(0 : Fin 8)] =
      some { refuse := false, deny := false, prio := 0, origin := 0, anyOrigin := true, minTrust := 0, rate := 0xFFFF,
             depth := 255, hintCap := 1000, bucket := 255000 } ∧
    ∀ c : Fin 8, c ≠ 0 → State.reset.pb[g].classes[c] = none) ∧
  (∀ i : Fin 8, State.reset.sec.slots[i] = none) ∧ State.reset.sec.dbgLevel = 0 ∧
  (∀ p : MxNo, State.reset.mxt[p].up = false ∧ State.reset.lanes[p].stage = 1) ∧ State.reset.hcb.mbIn = [] ∧
  State.reset.hcb.mbOut = [] ∧ State.reset.hcb.phase = .boot ∧ State.reset.group.joined = false

/-- Every command, and every step, keeps memory in canonical form, every locked instance at the fields of its profile, and the
mailboxes and the attention queue within their sizes; no command changes the part, its revision or the queue. -/
def Obligations.InvariantKept : Prop :=
  (∀ (c : Instr) (s n : State), exec c s = .next n → s.Inv →
    n.Inv ∧ n.pending = s.pending ∧ n.part = s.part ∧ n.rev = s.rev) ∧
  ∀ s n : State, step s = .next n → s.Inv → n.Inv ∧ n.pending = s.pending.tail ∧ n.part = s.part ∧ n.rev = s.rev
end

