-- ==== Sys2Proof/Laws/Issue.lean ====
section
/-! SUPPORT. What issuing an instruction can do: the cases of `State.issue`, and what the fetch leaves unchanged. -/

namespace Sys2Proof.Machine

/-! ### Threads and registers -/

theorem thr_modThread_self (s : State) (t : Thread) (f : ThreadSt → ThreadSt) : (s.modThread t f).thr t = f (s.thr t) := by
  simp [State.thr, State.modThread, vmod]

theorem thr_modThread_ne (s : State) (t u : Thread) (f : ThreadSt → ThreadSt) (h : u ≠ t) :
    (s.modThread t f).thr u = s.thr u := by
  have h' : ¬ t.val = u.val := fun e => h (Fin.ext e.symm)
  simp only [State.thr, State.modThread, vmod, Fin.getElem_fin]
  rw [Vector.getElem_set_ne _ _ h']

theorem modThread_modThread (s : State) (t : Thread) (f g : ThreadSt → ThreadSt) :
    (s.modThread t f).modThread t g = s.modThread t fun th => g (f th) := by
  simp [State.modThread, vmod]

theorem onlyThread_modThread (s : State) (t : Thread) (f : ThreadSt → ThreadSt) : OnlyThread t s (s.modThread t f) := by
  simp [OnlyThread, State.modThread, vmod, State.thr]

theorem read_zero (f : RegFile) : f.read 0 = 0 := rfl

theorem read_write_self (f : RegFile) (r : Reg) (w : Word) (h : r ≠ 0) : (f.write r w).read r = w := by
  simp [RegFile.read, RegFile.write, h]

theorem read_write_ne (f : RegFile) (r q : Reg) (w : Word) (h : q ≠ r) : (f.write r w).read q = f.read q := by
  have h' : ¬ r.val = q.val := fun e => h (Fin.ext e.symm)
  by_cases hr : r = 0
  · simp [RegFile.write, hr]
  · simp only [RegFile.read, RegFile.write, hr, if_false, Fin.getElem_fin]
    rw [Vector.getElem_set_ne _ _ h']

theorem ready_write_self (f : RegFile) (r : Reg) (w : Word) (h : r ≠ 0) : (f.write r w).ready r = true := by
  simp [RegFile.ready, RegFile.write, h]

theorem ready_write_ne (f : RegFile) (r q : Reg) (w : Word) (h : q ≠ r) : (f.write r w).ready q = f.ready q := by
  have h' : ¬ r.val = q.val := fun e => h (Fin.ext e.symm)
  by_cases hr : r = 0
  · simp [RegFile.write, hr]
  · simp only [RegFile.ready, RegFile.write, hr, if_false, Fin.getElem_fin]
    rw [Vector.getElem_set_ne _ _ h']

/-! ### The fetch -/

theorem clearResv_thr (s : State) (g : Nat) (t : Thread) : (s.clearResv g).thr t = (s.thr t).loseResv g := by
  simp [State.clearResv, State.thr]

/-- A correction leaves registers, IA, exception registers and mode of every thread, and the data and tags of memory. -/
theorem correctWord_thr (s : State) (w : Nat) (t : Thread) :
    (s.correctWord w).thr t = s.thr t ∨ (s.correctWord w).thr t = (s.thr t).loseResv (lineOfWord w) := by
  unfold State.correctWord
  split
  · right; exact clearResv_thr s _ t
  · left; rfl

theorem correctWord_mem (s : State) (w : Nat) :
    (s.correctWord w).res.data = s.res.data ∧ (s.correctWord w).res.tags = s.res.tags ∧
      (s.correctWord w).res.pages = s.res.pages := by
  unfold State.correctWord Reservoir.correct
  split
  · cases aget w s.res.errs with
    | none => exact ⟨rfl, rfl, rfl⟩
    | some e => cases e <;> exact ⟨rfl, rfl, rfl⟩
  · exact ⟨rfl, rfl, rfl⟩

theorem fetchCorrect_thr (s : State) (t u : Thread) :
    (s.fetchCorrect t).thr u = s.thr u ∨ ∃ g, (s.fetchCorrect t).thr u = (s.thr u).loseResv g := by
  unfold State.fetchCorrect
  split
  · rcases correctWord_thr s ((s.thr t).ia.toNat / 2) u with h | h
    · exact .inl h
    · exact .inr ⟨_, h⟩
  · exact .inl rfl

theorem fetchCorrect_mem (s : State) (t : Thread) :
    (s.fetchCorrect t).res.data = s.res.data ∧ (s.fetchCorrect t).res.tags = s.res.tags := by
  unfold State.fetchCorrect
  split
  · exact ⟨(correctWord_mem _ _).1, (correctWord_mem _ _).2.1⟩
  · exact ⟨rfl, rfl⟩

/-- The fetch leaves of a thread everything but its reservation and a queued LLW's claim to one. -/
theorem fetchCorrect_keeps (s : State) (t u : Thread) :
    ∃ r g, (s.fetchCorrect t).thr u = { s.thr u with resv := r, cq := (s.thr u).cq.map g } ∧ (∀ e : CqEntry, (g e).ckpt = e.ckpt) := by
  rcases fetchCorrect_thr s t u with h | ⟨g, h⟩
  · exact ⟨(s.thr u).resv, id, by rw [h, List.map_id], fun _ => rfl⟩
  · exact ⟨_, CqEntry.loseClaim g, h, fun e => by unfold CqEntry.loseClaim; split <;> rfl⟩

theorem fetchCorrect_rf (s : State) (t u : Thread) : ((s.fetchCorrect t).thr u).rf = (s.thr u).rf := by
  obtain ⟨r, g, h, _⟩ := fetchCorrect_keeps s t u; rw [h]

theorem fetchCorrect_ia (s : State) (t u : Thread) : ((s.fetchCorrect t).thr u).ia = (s.thr u).ia := by
  obtain ⟨r, g, h, _⟩ := fetchCorrect_keeps s t u; rw [h]

theorem fetchCorrect_issued (s : State) (t u : Thread) : ((s.fetchCorrect t).thr u).issued = (s.thr u).issued := by
  obtain ⟨r, g, h, _⟩ := fetchCorrect_keeps s t u; rw [h]

theorem fetchCorrect_reg (s : State) (t u : Thread) (r : Reg) : (s.fetchCorrect t).reg u r = s.reg u r := by
  simp only [State.reg, fetchCorrect_rf]

theorem fetchCorrect_allCommitted (s : State) (t u : Thread) : (s.fetchCorrect t).allCommitted u = s.allCommitted u := by
  obtain ⟨r, g, h, _⟩ := fetchCorrect_keeps s t u
  simp [State.allCommitted, h]

theorem fetchCorrect_inSlot (s : State) (t : Thread) : (s.fetchCorrect t).inSlot t = s.inSlot t := by
  have h : (s.fetchCorrect t).seq.slot = s.seq.slot := by
    unfold State.fetchCorrect State.correctWord
    split
    · split <;> rfl
    · rfl
  simp only [State.inSlot, h, fetchCorrect_ia]

theorem fetchCorrect_issueCount (s : State) (t : Thread) : (s.fetchCorrect t).issueCount t = s.issueCount t := by
  simp only [State.issueCount, fetchCorrect_inSlot, fetchCorrect_issued]

/-! ### Issue -/

/-- An instruction that runs is carried out by its meaning on the state after its fetch. -/
theorem issue_runs {s : State} {t : Thread} {enc : BitVec 36} {srcs : List Reg} {c : Bool} {body : State → Issued}
    (h : s.runs t enc srcs c = true) :
    s.issue t enc srcs c body = (s.fetchCorrect t).finish t (body (s.fetchCorrect t)) := by
  simp only [State.runs, Bool.and_eq_true] at h
  obtain ⟨⟨hsel, hone⟩, hstart⟩ := h
  have hsel' := hsel
  simp only [State.selectable, State.active, Bool.and_eq_true] at hsel'
  obtain ⟨⟨⟨⟨⟨hlive, _⟩, _⟩, hwait⟩, _⟩, _⟩ := hsel'
  have hwait' : (s.thr t).wait = .none := by simpa using hwait
  have hun : s.unblock t = s := by simp [State.unblock, hwait']
  have hc := hstart
  simp only [State.canStart, Bool.and_eq_true, Bool.not_eq_true', beq_iff_eq] at hc
  obtain ⟨⟨⟨⟨⟨hf, hb⟩, he⟩, hp⟩, _⟩, _⟩ := hc
  have hu : (useOf (s.res.insn (s.thr t).ia)).isNone = false := by
    rw [he]
    cases hv : useOf enc with
    | none => rw [hv] at hp; simp at hp
    | some k => rfl
  have hff : s.fetchFault t = none := by simp [State.fetchFault, hf, hb, hu]
  have ha : s.arbitrate t = (true, s) := by
    simp only [State.selected] at hone
    simp [State.arbitrate, hone]
  simp [State.issue, hlive, hun, hsel, State.tryIssue, hff, hstart, ha]

/-- A next instruction that its fetch stops, every older one committed, raises its exception whatever is commanded. -/
theorem issue_fetchFault {s : State} {t : Thread} {enc : BitVec 36} {srcs : List Reg} {c : Bool} {body : State → Issued}
    {x : BitVec 6 × BitVec 64} (hsel : s.selectable t = true) (hone : s.selected t = true) (hc : s.allCommitted t = true)
    (hx : s.fetchFault t = some x) : s.issue t enc srcs c body = s.fetchExcept t x := by
  have hsel' := hsel
  simp only [State.selectable, State.active, Bool.and_eq_true] at hsel'
  obtain ⟨⟨⟨⟨⟨hlive, _⟩, _⟩, hwait⟩, _⟩, _⟩ := hsel'
  have hwait' : (s.thr t).wait = .none := by simpa using hwait
  have hun : s.unblock t = s := by simp [State.unblock, hwait']
  have ha : s.arbitrate t = (true, s) := by
    simp only [State.selected] at hone
    simp [State.arbitrate, hone]
  simp [State.issue, hlive, hun, hsel, State.tryIssue, hx, hc, ha]

/-- A thread that has gone on at an IA. -/
def ThreadSt.wentOn (ia : BitVec 24) (cq : List CqEntry) (second : Bool) (th : ThreadSt) : ThreadSt :=
  { th with ia := ia, cq := cq, issued := if second then th.issued else th.issued + 1 }

/-- What going on does to the thread, and that it changes nothing else but the selection of IS. -/
theorem goOn_spec (s : State) (t : Thread) (n : State) (ia : BitVec 24) :
    ∃ cq slot, s.goOn t n ia = (n.modThread t (ThreadSt.wentOn ia cq (s.inSlot t))).markSel t slot := by
  simp only [State.goOn, State.counted, State.enqueue]
  split
  · have h : ((n.modThread t fun th => { th with ia := ia }).modThread t fun th =>
        { th with issued := if s.inSlot t then th.issued else th.issued + 1 }) =
        n.modThread t (ThreadSt.wentOn ia (n.thr t).cq (s.inSlot t)) := by
      rw [modThread_modThread]
      simp [State.modThread, vmod, ThreadSt.wentOn, State.thr]
    exact ⟨_, _, congrArg (State.markSel · t _) h⟩
  · have h : (((n.modThread t fun th => { th with
            cq := th.cq ++ [⟨n.nextId, (s.thr t).ia, s.res.insn (s.thr t).ia, (s.thr t).rf, .done⟩] }).modThread t
          fun th => { th with ia := ia }).modThread t
        fun th => { th with issued := if s.inSlot t then th.issued else th.issued + 1 }) =
        n.modThread t (ThreadSt.wentOn ia
          ((n.thr t).cq ++ [⟨n.nextId, (s.thr t).ia, s.res.insn (s.thr t).ia, (s.thr t).rf, .done⟩]) (s.inSlot t)) := by
      rw [modThread_modThread, modThread_modThread]
      simp [State.modThread, vmod, ThreadSt.wentOn, State.thr]
    exact ⟨_, _, congrArg (State.markSel · t _) h⟩

/-! ### Instructions that write one register -/

/-- A register written and the thread gone on to `ia` is the whole effect `WritesReg` names. -/
theorem writesReg_setReg (s : State) (t : Thread) (wd : Reg) (w : Word) (ia : BitVec 24) :
    WritesReg s ((s.fetchCorrect t).goOn t ((s.fetchCorrect t).setReg t wd w) ia) t wd w ia := by
  obtain ⟨cq, slot, e⟩ := goOn_spec (s.fetchCorrect t) t ((s.fetchCorrect t).setReg t wd w) ia
  rw [e, fetchCorrect_inSlot, State.setReg, modThread_modThread]
  have ht : ((((s.fetchCorrect t).modThread t fun th =>
        ThreadSt.wentOn ia cq (s.inSlot t) { th with rf := th.rf.write wd w }).markSel t slot).thr t) =
      ThreadSt.wentOn ia cq (s.inSlot t) { (s.fetchCorrect t).thr t with rf := ((s.fetchCorrect t).thr t).rf.write wd w } :=
    thr_modThread_self (s.fetchCorrect t) t _
  refine ⟨?_, rfl, ?_, ?_, ?_, rfl, ?_, ?_, ?_⟩
  · intro h
    rw [State.reg, ht]
    exact ⟨read_write_self _ _ _ h, ready_write_self _ _ _ h⟩
  · intro r h
    rw [State.reg, ht]
    refine ⟨?_, ?_⟩
    · exact (read_write_ne _ _ _ _ h).trans (congrArg (RegFile.read · r) (fetchCorrect_rf s t t))
    · exact (ready_write_ne _ _ _ _ h).trans (congrArg (RegFile.ready · r) (fetchCorrect_rf s t t))
  · rw [ht]; rfl
  · rw [ht]; simp only [ThreadSt.wentOn, State.issueCount, fetchCorrect_issued]
  · rw [ht]; rfl
  · simp [OnlyThread, State.modThread, vmod, State.thr, State.markSel]
  · exact ⟨fun a => congrArg (readByte · a) (fetchCorrect_mem s t).1, fun a => congrArg (readByte · a) (fetchCorrect_mem s t).2⟩

/-- An instruction whose meaning writes one register and goes on. -/
theorem issue_writes {s : State} {t : Thread} {enc : BitVec 36} {srcs : List Reg} {c : Bool} {body : State → Issued}
    {wd : Reg} {w : Word} (h : s.runs t enc srcs c = true)
    (hb : body (s.fetchCorrect t) = .done ((s.fetchCorrect t).setReg t wd w)) :
    WritesReg s (s.issue t enc srcs c body) t wd w ((s.iaOf t) + 1) := by
  rw [issue_runs h, hb]
  have := writesReg_setReg s t wd w ((s.iaOf t) + 1)
  simpa only [State.finish, State.iaOf, fetchCorrect_ia] using this

/-- An instruction whose meaning writes one register and jumps. -/
theorem issue_jumps {s : State} {t : Thread} {enc : BitVec 36} {srcs : List Reg} {c : Bool} {body : State → Issued}
    {wd : Reg} {w : Word} {ia : BitVec 24} (h : s.runs t enc srcs c = true)
    (hb : body (s.fetchCorrect t) = .jump ((s.fetchCorrect t).setReg t wd w) ia) :
    WritesReg s (s.issue t enc srcs c body) t wd w ia := by
  rw [issue_runs h, hb]
  exact writesReg_setReg s t wd w ia

end Sys2Proof.Machine
end

