-- ==== Sys2Proof/Laws/Memory.lean ====
section
/-! SUPPORT. The Reservoir's memory: a read after a write, and the canonical form that every memory operation keeps. -/

namespace Sys2Proof.Machine

/-! ### Sparse tables -/

theorem aget_aset_self {α : Type} (k : Nat) (v : α) (l : Assoc α) : aget k (aset k v l) = some v := by
  induction l with
  | nil => simp [aset, aget]
  | cons c r ih =>
    obtain ⟨k', v'⟩ := c
    rcases Nat.lt_trichotomy k k' with h | h | h
    · simp [aset, h, aget]
    · subst h; simp [aset, aget]
    · have h1 : ¬ k < k' := by omega
      have h2 : ¬ k = k' := by omega
      simp [aset, h1, h2, aget, ih]

theorem aget_aset_ne {α : Type} (k j : Nat) (v : α) (l : Assoc α) (hj : j ≠ k) : aget j (aset k v l) = aget j l := by
  induction l with
  | nil => simp [aset, aget, hj]
  | cons c r ih =>
    obtain ⟨k', v'⟩ := c
    rcases Nat.lt_trichotomy k k' with h | h | h
    · simp [aset, h, aget, hj]
    · subst h; simp [aset, aget, hj]
    · have h1 : ¬ k < k' := by omega
      have h2 : ¬ k = k' := by omega
      simp [aset, h1, h2, aget, ih]

theorem aget_adel_self {α : Type} (k : Nat) (l : Assoc α) : aget k (adel k l) = none := by
  induction l with
  | nil => rfl
  | cons c r ih =>
    obtain ⟨k', v'⟩ := c
    by_cases h : k = k'
    · rw [adel, if_pos h]; exact ih
    · rw [adel, if_neg h, aget, if_neg h]; exact ih

theorem aget_adel_ne {α : Type} (k j : Nat) (l : Assoc α) (hj : j ≠ k) : aget j (adel k l) = aget j l := by
  induction l with
  | nil => rfl
  | cons c r ih =>
    obtain ⟨k', v'⟩ := c
    by_cases h : k = k'
    · subst h; simp [adel, aget, hj, ih]
    · simp [adel, h, aget, ih]

/-! ### Bytes -/

theorem readByte_writeByte_self (m : Mem) (a : Nat) (b : Byte) : readByte (writeByte m a b) a = b := by
  unfold readByte writeByte
  split
  · rw [aget_adel_self]; exact ‹b = 0›.symm
  · rw [aget_aset_self]; rfl

theorem readByte_writeByte_ne (m : Mem) (a c : Nat) (b : Byte) (h : c ≠ a) :
    readByte (writeByte m a b) c = readByte m c := by
  unfold readByte writeByte
  split
  · rw [aget_adel_ne a c m h]
  · rw [aget_aset_ne a c b m h]

theorem readByte_writeBytes_lt (l : List Byte) (m : Mem) (a c : Nat) (h : c < a) :
    readByte (writeBytes m a l) c = readByte m c := by
  induction l generalizing m a with
  | nil => rfl
  | cons b r ih => rw [writeBytes, ih _ _ (by omega), readByte_writeByte_ne _ _ _ _ (by omega)]

theorem readByte_writeBytes_ge (l : List Byte) (m : Mem) (a c : Nat) (h : a + l.length ≤ c) :
    readByte (writeBytes m a l) c = readByte m c := by
  induction l generalizing m a with
  | nil => rfl
  | cons b r ih =>
    simp only [List.length_cons] at h
    rw [writeBytes, ih _ _ (by omega), readByte_writeByte_ne _ _ _ _ (by omega)]

theorem readByte_writeBytes_get (l : List Byte) (m : Mem) (a i : Nat) (h : i < l.length) :
    readByte (writeBytes m a l) (a + i) = l[i] := by
  induction l generalizing m a i with
  | nil => simp at h
  | cons b r ih =>
    cases i with
    | zero => rw [writeBytes, readByte_writeBytes_lt _ _ _ _ (by omega)]; exact readByte_writeByte_self m a b
    | succ j =>
      have := ih (writeByte m a b) (a + 1) j (by simpa using h)
      rw [writeBytes, show a + (j + 1) = a + 1 + j by omega, this]
      rfl

/-! ### Words -/

theorem ofBytes_congr (f g : Nat → Byte) (h : ∀ i, i < 8 → f i = g i) : ofBytes f = ofBytes g := by
  unfold ofBytes
  simp [h]

theorem ofBytes_byteOf (d : Data) : ofBytes (byteOf d) = d := by
  apply BitVec.eq_of_getLsbD_eq
  intro i hi
  refine BitVec.getLsbD_append.trans ?_
  simp only [byteOf, BitVec.getLsbD_append, BitVec.getLsbD_extractLsb']
  repeat' split
  all_goals
    rw [decide_eq_true (by omega), Bool.true_and]
    congr 1
    omega

theorem mkWord_parts (w : Word) : mkWord (tagOf w) (dataOf w) = w := by
  apply BitVec.eq_of_getLsbD_eq
  intro i hi
  refine BitVec.getLsbD_append.trans ?_
  simp only [tagOf, dataOf, BitVec.getLsbD_extractLsb']
  split
  all_goals
    rw [decide_eq_true (by omega), Bool.true_and]
    congr 1
    omega

theorem getElem_bytesOf (d : Data) (i : Nat) (h : i < (bytesOf d).length) : (bytesOf d)[i] = byteOf d i := by
  simp [bytesOf]

theorem length_bytesOf (d : Data) : (bytesOf d).length = 8 := by simp [bytesOf]

/-- A word just written reads back, and no other word has changed. -/
theorem word_putWord_self (r : Reservoir) (w : Nat) (x : Word) : (r.putWord w x).word w = x := by
  unfold Reservoir.word Reservoir.putWord
  have h : (ofBytes fun i => readByte (writeBytes r.data (8 * w) (bytesOf (dataOf x))) (8 * w + i)) = dataOf x := by
    rw [← ofBytes_byteOf (dataOf x)]
    refine ofBytes_congr _ _ fun i hi => ?_
    rw [readByte_writeBytes_get _ _ _ i (by rw [length_bytesOf]; exact hi), getElem_bytesOf, ofBytes_byteOf]
  simp only [readByte_writeByte_self, h, mkWord_parts]

theorem word_putWord_ne (r : Reservoir) (w v : Nat) (x : Word) (h : v ≠ w) : (r.putWord w x).word v = r.word v := by
  unfold Reservoir.word Reservoir.putWord
  rw [readByte_writeByte_ne _ _ _ _ h]
  congr 1
  refine ofBytes_congr _ _ fun i hi => ?_
  rcases Nat.lt_or_gt_of_ne h with h | h
  · rw [readByte_writeBytes_lt _ _ _ _ (by omega)]
  · rw [readByte_writeBytes_ge _ _ _ _ (by rw [length_bytesOf]; omega)]

/-! ### The canonical form -/

/-- Every listed address lies above `a`. -/
def Memory.above (a : Nat) (m : Mem) : Prop := ∀ d ∈ m, a < d.1

theorem wf_cons (c : Nat × Byte) (m : Mem) :
    Memory.wf (c :: m) = true ↔ c.2 ≠ 0 ∧ Memory.above c.1 m ∧ Memory.wf m = true := by
  induction m generalizing c with
  | nil => simp [Memory.wf, Memory.above]
  | cons d r ih =>
    have hd := ih d
    simp only [Memory.wf, Bool.and_eq_true, bne_iff_ne, ne_eq, decide_eq_true_eq, and_assoc]
    constructor
    · rintro ⟨h1, h2, h3⟩
      refine ⟨h1, ?_, h3⟩
      intro e he
      rcases List.mem_cons.1 he with rfl | he
      · exact h2
      · exact Nat.lt_trans h2 ((hd.1 h3).2.1 e he)
    · rintro ⟨h1, h2, h3⟩
      exact ⟨h1, h2 d List.mem_cons_self, h3⟩

theorem above_adel (a k : Nat) (m : Mem) (h : Memory.above a m) : Memory.above a (adel k m) := by
  induction m with
  | nil => exact h
  | cons c r ih =>
    have hr : Memory.above a r := fun d hd => h d (List.mem_cons_of_mem _ hd)
    obtain ⟨k', v'⟩ := c
    by_cases hk : k = k'
    · simpa [adel, hk] using hk ▸ ih hr
    · intro d hd
      simp only [adel, hk, if_false] at hd
      rcases List.mem_cons.1 hd with rfl | hd
      · exact h _ List.mem_cons_self
      · exact ih hr d hd

theorem above_aset (a k : Nat) (v : Byte) (m : Mem) (h : Memory.above a m) (hk : a < k) : Memory.above a (aset k v m) := by
  induction m with
  | nil => intro d hd; simp [aset] at hd; subst hd; exact hk
  | cons c r ih =>
    have hr : Memory.above a r := fun d hd => h d (List.mem_cons_of_mem _ hd)
    obtain ⟨k', v'⟩ := c
    intro d hd
    unfold aset at hd
    split at hd
    · rcases List.mem_cons.1 hd with rfl | hd
      · exact hk
      · exact h d hd
    · split at hd
      · rcases List.mem_cons.1 hd with rfl | hd
        · exact hk
        · exact hr d hd
      · rcases List.mem_cons.1 hd with rfl | hd
        · exact h _ List.mem_cons_self
        · exact ih hr d hd

theorem wf_adel (k : Nat) (m : Mem) (h : Memory.wf m = true) : Memory.wf (adel k m) = true := by
  induction m with
  | nil => exact h
  | cons c r ih =>
    obtain ⟨h1, h2, h3⟩ := (wf_cons c r).1 h
    obtain ⟨k', v'⟩ := c
    unfold adel
    split
    · exact ih h3
    · exact (wf_cons _ _).2 ⟨h1, above_adel _ _ _ h2, ih h3⟩

theorem wf_aset (k : Nat) (v : Byte) (m : Mem) (hv : v ≠ 0) (h : Memory.wf m = true) : Memory.wf (aset k v m) = true := by
  induction m with
  | nil => exact (wf_cons (k, v) []).2 ⟨hv, fun d hd => by simp at hd, rfl⟩
  | cons c r ih =>
    obtain ⟨h1, h2, h3⟩ := (wf_cons c r).1 h
    obtain ⟨k', v'⟩ := c
    unfold aset
    split
    · rename_i hk
      refine (wf_cons _ _).2 ⟨hv, ?_, h⟩
      intro d hd
      rcases List.mem_cons.1 hd with rfl | hd
      · exact hk
      · exact Nat.lt_trans hk (h2 d hd)
    · split
      · rename_i hk; subst hk; exact (wf_cons _ _).2 ⟨hv, h2, h3⟩
      · exact (wf_cons _ _).2 ⟨h1, above_aset _ _ _ _ h2 (by show k' < k; omega), ih h3⟩

/-- Writing a byte keeps the canonical form. -/
theorem wf_writeByte (m : Mem) (a : Nat) (b : Byte) (h : Memory.wf m = true) : Memory.wf (writeByte m a b) = true := by
  unfold writeByte
  split
  · exact wf_adel _ _ h
  · exact wf_aset _ _ _ ‹_› h

/-- Writing bytes in a row keeps the canonical form. -/
theorem wf_writeBytes (l : List Byte) (m : Mem) (a : Nat) (h : Memory.wf m = true) : Memory.wf (writeBytes m a l) = true := by
  induction l generalizing m a with
  | nil => exact h
  | cons b r ih => exact ih _ _ (wf_writeByte _ _ _ h)

/-- Both memories of the Reservoir are in canonical form. -/
def Reservoir.ok (r : Reservoir) : Prop := Memory.wf r.data = true ∧ Memory.wf r.tags = true

theorem Reservoir.initial_ok (r : Reservoir) (hd : r.data = []) (ht : r.tags = []) : r.ok := by
  simp [Reservoir.ok, hd, ht, Memory.wf]

theorem Reservoir.ok_putWord (r : Reservoir) (w : Nat) (x : Word) (h : r.ok) : (r.putWord w x).ok :=
  ⟨wf_writeBytes _ _ _ h.1, wf_writeByte _ _ _ h.2⟩

theorem Reservoir.ok_correct (r : Reservoir) (w : Nat) (h : r.ok) : (r.correct w).ok := by
  unfold Reservoir.correct
  split <;> exact h

theorem Reservoir.ok_countUe (r : Reservoir) (w : Nat) (h : r.ok) : (r.countUe w).ok := h

end Sys2Proof.Machine
end

