-- ==== Sys2Proof/Laws/State.lean ====
section
/-! SUPPORT. What each named update of the state leaves unchanged: one lemma per update and field. -/

namespace Sys2Proof.Machine

/-! ### State.modThread changes `seq` alone -/

@[simp] theorem modThread_part (s : State) (t : Thread) (f : ThreadSt → ThreadSt) : (s.modThread t f).part = s.part := rfl
@[simp] theorem modThread_rev (s : State) (t : Thread) (f : ThreadSt → ThreadSt) : (s.modThread t f).rev = s.rev := rfl
@[simp] theorem modThread_res (s : State) (t : Thread) (f : ThreadSt → ThreadSt) : (s.modThread t f).res = s.res := rfl
@[simp] theorem modThread_subs (s : State) (t : Thread) (f : ThreadSt → ThreadSt) : (s.modThread t f).subs = s.subs := rfl
@[simp] theorem modThread_windows (s : State) (t : Thread) (f : ThreadSt → ThreadSt) : (s.modThread t f).windows = s.windows := rfl
@[simp] theorem modThread_routes (s : State) (t : Thread) (f : ThreadSt → ThreadSt) : (s.modThread t f).routes = s.routes := rfl
@[simp] theorem modThread_rules (s : State) (t : Thread) (f : ThreadSt → ThreadSt) : (s.modThread t f).rules = s.rules := rfl
@[simp] theorem modThread_orders (s : State) (t : Thread) (f : ThreadSt → ThreadSt) : (s.modThread t f).orders = s.orders := rfl
@[simp] theorem modThread_mxt (s : State) (t : Thread) (f : ThreadSt → ThreadSt) : (s.modThread t f).mxt = s.mxt := rfl
@[simp] theorem modThread_lanes (s : State) (t : Thread) (f : ThreadSt → ThreadSt) : (s.modThread t f).lanes = s.lanes := rfl
@[simp] theorem modThread_pb (s : State) (t : Thread) (f : ThreadSt → ThreadSt) : (s.modThread t f).pb = s.pb := rfl
@[simp] theorem modThread_journal (s : State) (t : Thread) (f : ThreadSt → ThreadSt) : (s.modThread t f).journal = s.journal := rfl
@[simp] theorem modThread_engines (s : State) (t : Thread) (f : ThreadSt → ThreadSt) : (s.modThread t f).engines = s.engines := rfl
@[simp] theorem modThread_chans (s : State) (t : Thread) (f : ThreadSt → ThreadSt) : (s.modThread t f).chans = s.chans := rfl
@[simp] theorem modThread_mirror (s : State) (t : Thread) (f : ThreadSt → ThreadSt) : (s.modThread t f).mirror = s.mirror := rfl
@[simp] theorem modThread_field (s : State) (t : Thread) (f : ThreadSt → ThreadSt) : (s.modThread t f).field = s.field := rfl
@[simp] theorem modThread_gauge (s : State) (t : Thread) (f : ThreadSt → ThreadSt) : (s.modThread t f).gauge = s.gauge := rfl
@[simp] theorem modThread_group (s : State) (t : Thread) (f : ThreadSt → ThreadSt) : (s.modThread t f).group = s.group := rfl
@[simp] theorem modThread_time (s : State) (t : Thread) (f : ThreadSt → ThreadSt) : (s.modThread t f).time = s.time := rfl
@[simp] theorem modThread_sec (s : State) (t : Thread) (f : ThreadSt → ThreadSt) : (s.modThread t f).sec = s.sec := rfl
@[simp] theorem modThread_power (s : State) (t : Thread) (f : ThreadSt → ThreadSt) : (s.modThread t f).power = s.power := rfl
@[simp] theorem modThread_hcb (s : State) (t : Thread) (f : ThreadSt → ThreadSt) : (s.modThread t f).hcb = s.hcb := rfl
@[simp] theorem modThread_loader (s : State) (t : Thread) (f : ThreadSt → ThreadSt) : (s.modThread t f).loader = s.loader := rfl
@[simp] theorem modThread_pending (s : State) (t : Thread) (f : ThreadSt → ThreadSt) : (s.modThread t f).pending = s.pending := rfl
@[simp] theorem modThread_nextId (s : State) (t : Thread) (f : ThreadSt → ThreadSt) : (s.modThread t f).nextId = s.nextId := rfl
@[simp] theorem modThread_free (s : State) (t : Thread) (f : ThreadSt → ThreadSt) : (s.modThread t f).free = s.free := rfl

/-! ### State.modMxt changes `mxt` alone -/

@[simp] theorem modMxt_part (s : State) (p : MxNo) (f : Mxt → Mxt) : (s.modMxt p f).part = s.part := rfl
@[simp] theorem modMxt_rev (s : State) (p : MxNo) (f : Mxt → Mxt) : (s.modMxt p f).rev = s.rev := rfl
@[simp] theorem modMxt_seq (s : State) (p : MxNo) (f : Mxt → Mxt) : (s.modMxt p f).seq = s.seq := rfl
@[simp] theorem modMxt_res (s : State) (p : MxNo) (f : Mxt → Mxt) : (s.modMxt p f).res = s.res := rfl
@[simp] theorem modMxt_subs (s : State) (p : MxNo) (f : Mxt → Mxt) : (s.modMxt p f).subs = s.subs := rfl
@[simp] theorem modMxt_windows (s : State) (p : MxNo) (f : Mxt → Mxt) : (s.modMxt p f).windows = s.windows := rfl
@[simp] theorem modMxt_routes (s : State) (p : MxNo) (f : Mxt → Mxt) : (s.modMxt p f).routes = s.routes := rfl
@[simp] theorem modMxt_rules (s : State) (p : MxNo) (f : Mxt → Mxt) : (s.modMxt p f).rules = s.rules := rfl
@[simp] theorem modMxt_orders (s : State) (p : MxNo) (f : Mxt → Mxt) : (s.modMxt p f).orders = s.orders := rfl
@[simp] theorem modMxt_lanes (s : State) (p : MxNo) (f : Mxt → Mxt) : (s.modMxt p f).lanes = s.lanes := rfl
@[simp] theorem modMxt_pb (s : State) (p : MxNo) (f : Mxt → Mxt) : (s.modMxt p f).pb = s.pb := rfl
@[simp] theorem modMxt_journal (s : State) (p : MxNo) (f : Mxt → Mxt) : (s.modMxt p f).journal = s.journal := rfl
@[simp] theorem modMxt_engines (s : State) (p : MxNo) (f : Mxt → Mxt) : (s.modMxt p f).engines = s.engines := rfl
@[simp] theorem modMxt_chans (s : State) (p : MxNo) (f : Mxt → Mxt) : (s.modMxt p f).chans = s.chans := rfl
@[simp] theorem modMxt_mirror (s : State) (p : MxNo) (f : Mxt → Mxt) : (s.modMxt p f).mirror = s.mirror := rfl
@[simp] theorem modMxt_field (s : State) (p : MxNo) (f : Mxt → Mxt) : (s.modMxt p f).field = s.field := rfl
@[simp] theorem modMxt_gauge (s : State) (p : MxNo) (f : Mxt → Mxt) : (s.modMxt p f).gauge = s.gauge := rfl
@[simp] theorem modMxt_group (s : State) (p : MxNo) (f : Mxt → Mxt) : (s.modMxt p f).group = s.group := rfl
@[simp] theorem modMxt_time (s : State) (p : MxNo) (f : Mxt → Mxt) : (s.modMxt p f).time = s.time := rfl
@[simp] theorem modMxt_sec (s : State) (p : MxNo) (f : Mxt → Mxt) : (s.modMxt p f).sec = s.sec := rfl
@[simp] theorem modMxt_power (s : State) (p : MxNo) (f : Mxt → Mxt) : (s.modMxt p f).power = s.power := rfl
@[simp] theorem modMxt_hcb (s : State) (p : MxNo) (f : Mxt → Mxt) : (s.modMxt p f).hcb = s.hcb := rfl
@[simp] theorem modMxt_loader (s : State) (p : MxNo) (f : Mxt → Mxt) : (s.modMxt p f).loader = s.loader := rfl
@[simp] theorem modMxt_pending (s : State) (p : MxNo) (f : Mxt → Mxt) : (s.modMxt p f).pending = s.pending := rfl
@[simp] theorem modMxt_nextId (s : State) (p : MxNo) (f : Mxt → Mxt) : (s.modMxt p f).nextId = s.nextId := rfl
@[simp] theorem modMxt_free (s : State) (p : MxNo) (f : Mxt → Mxt) : (s.modMxt p f).free = s.free := rfl

/-! ### State.modLn changes `lanes` alone -/

@[simp] theorem modLn_part (s : State) (p : MxNo) (f : LanePort → LanePort) : (s.modLn p f).part = s.part := rfl
@[simp] theorem modLn_rev (s : State) (p : MxNo) (f : LanePort → LanePort) : (s.modLn p f).rev = s.rev := rfl
@[simp] theorem modLn_seq (s : State) (p : MxNo) (f : LanePort → LanePort) : (s.modLn p f).seq = s.seq := rfl
@[simp] theorem modLn_res (s : State) (p : MxNo) (f : LanePort → LanePort) : (s.modLn p f).res = s.res := rfl
@[simp] theorem modLn_subs (s : State) (p : MxNo) (f : LanePort → LanePort) : (s.modLn p f).subs = s.subs := rfl
@[simp] theorem modLn_windows (s : State) (p : MxNo) (f : LanePort → LanePort) : (s.modLn p f).windows = s.windows := rfl
@[simp] theorem modLn_routes (s : State) (p : MxNo) (f : LanePort → LanePort) : (s.modLn p f).routes = s.routes := rfl
@[simp] theorem modLn_rules (s : State) (p : MxNo) (f : LanePort → LanePort) : (s.modLn p f).rules = s.rules := rfl
@[simp] theorem modLn_orders (s : State) (p : MxNo) (f : LanePort → LanePort) : (s.modLn p f).orders = s.orders := rfl
@[simp] theorem modLn_mxt (s : State) (p : MxNo) (f : LanePort → LanePort) : (s.modLn p f).mxt = s.mxt := rfl
@[simp] theorem modLn_pb (s : State) (p : MxNo) (f : LanePort → LanePort) : (s.modLn p f).pb = s.pb := rfl
@[simp] theorem modLn_journal (s : State) (p : MxNo) (f : LanePort → LanePort) : (s.modLn p f).journal = s.journal := rfl
@[simp] theorem modLn_engines (s : State) (p : MxNo) (f : LanePort → LanePort) : (s.modLn p f).engines = s.engines := rfl
@[simp] theorem modLn_chans (s : State) (p : MxNo) (f : LanePort → LanePort) : (s.modLn p f).chans = s.chans := rfl
@[simp] theorem modLn_mirror (s : State) (p : MxNo) (f : LanePort → LanePort) : (s.modLn p f).mirror = s.mirror := rfl
@[simp] theorem modLn_field (s : State) (p : MxNo) (f : LanePort → LanePort) : (s.modLn p f).field = s.field := rfl
@[simp] theorem modLn_gauge (s : State) (p : MxNo) (f : LanePort → LanePort) : (s.modLn p f).gauge = s.gauge := rfl
@[simp] theorem modLn_group (s : State) (p : MxNo) (f : LanePort → LanePort) : (s.modLn p f).group = s.group := rfl
@[simp] theorem modLn_time (s : State) (p : MxNo) (f : LanePort → LanePort) : (s.modLn p f).time = s.time := rfl
@[simp] theorem modLn_sec (s : State) (p : MxNo) (f : LanePort → LanePort) : (s.modLn p f).sec = s.sec := rfl
@[simp] theorem modLn_power (s : State) (p : MxNo) (f : LanePort → LanePort) : (s.modLn p f).power = s.power := rfl
@[simp] theorem modLn_hcb (s : State) (p : MxNo) (f : LanePort → LanePort) : (s.modLn p f).hcb = s.hcb := rfl
@[simp] theorem modLn_loader (s : State) (p : MxNo) (f : LanePort → LanePort) : (s.modLn p f).loader = s.loader := rfl
@[simp] theorem modLn_pending (s : State) (p : MxNo) (f : LanePort → LanePort) : (s.modLn p f).pending = s.pending := rfl
@[simp] theorem modLn_nextId (s : State) (p : MxNo) (f : LanePort → LanePort) : (s.modLn p f).nextId = s.nextId := rfl
@[simp] theorem modLn_free (s : State) (p : MxNo) (f : LanePort → LanePort) : (s.modLn p f).free = s.free := rfl

/-! ### State.modPb changes `pb` alone -/

@[simp] theorem modPb_part (s : State) (n : PbNo) (f : Pb → Pb) : (s.modPb n f).part = s.part := rfl
@[simp] theorem modPb_rev (s : State) (n : PbNo) (f : Pb → Pb) : (s.modPb n f).rev = s.rev := rfl
@[simp] theorem modPb_seq (s : State) (n : PbNo) (f : Pb → Pb) : (s.modPb n f).seq = s.seq := rfl
@[simp] theorem modPb_res (s : State) (n : PbNo) (f : Pb → Pb) : (s.modPb n f).res = s.res := rfl
@[simp] theorem modPb_subs (s : State) (n : PbNo) (f : Pb → Pb) : (s.modPb n f).subs = s.subs := rfl
@[simp] theorem modPb_windows (s : State) (n : PbNo) (f : Pb → Pb) : (s.modPb n f).windows = s.windows := rfl
@[simp] theorem modPb_routes (s : State) (n : PbNo) (f : Pb → Pb) : (s.modPb n f).routes = s.routes := rfl
@[simp] theorem modPb_rules (s : State) (n : PbNo) (f : Pb → Pb) : (s.modPb n f).rules = s.rules := rfl
@[simp] theorem modPb_orders (s : State) (n : PbNo) (f : Pb → Pb) : (s.modPb n f).orders = s.orders := rfl
@[simp] theorem modPb_mxt (s : State) (n : PbNo) (f : Pb → Pb) : (s.modPb n f).mxt = s.mxt := rfl
@[simp] theorem modPb_lanes (s : State) (n : PbNo) (f : Pb → Pb) : (s.modPb n f).lanes = s.lanes := rfl
@[simp] theorem modPb_journal (s : State) (n : PbNo) (f : Pb → Pb) : (s.modPb n f).journal = s.journal := rfl
@[simp] theorem modPb_engines (s : State) (n : PbNo) (f : Pb → Pb) : (s.modPb n f).engines = s.engines := rfl
@[simp] theorem modPb_chans (s : State) (n : PbNo) (f : Pb → Pb) : (s.modPb n f).chans = s.chans := rfl
@[simp] theorem modPb_mirror (s : State) (n : PbNo) (f : Pb → Pb) : (s.modPb n f).mirror = s.mirror := rfl
@[simp] theorem modPb_field (s : State) (n : PbNo) (f : Pb → Pb) : (s.modPb n f).field = s.field := rfl
@[simp] theorem modPb_gauge (s : State) (n : PbNo) (f : Pb → Pb) : (s.modPb n f).gauge = s.gauge := rfl
@[simp] theorem modPb_group (s : State) (n : PbNo) (f : Pb → Pb) : (s.modPb n f).group = s.group := rfl
@[simp] theorem modPb_time (s : State) (n : PbNo) (f : Pb → Pb) : (s.modPb n f).time = s.time := rfl
@[simp] theorem modPb_sec (s : State) (n : PbNo) (f : Pb → Pb) : (s.modPb n f).sec = s.sec := rfl
@[simp] theorem modPb_power (s : State) (n : PbNo) (f : Pb → Pb) : (s.modPb n f).power = s.power := rfl
@[simp] theorem modPb_hcb (s : State) (n : PbNo) (f : Pb → Pb) : (s.modPb n f).hcb = s.hcb := rfl
@[simp] theorem modPb_loader (s : State) (n : PbNo) (f : Pb → Pb) : (s.modPb n f).loader = s.loader := rfl
@[simp] theorem modPb_pending (s : State) (n : PbNo) (f : Pb → Pb) : (s.modPb n f).pending = s.pending := rfl
@[simp] theorem modPb_nextId (s : State) (n : PbNo) (f : Pb → Pb) : (s.modPb n f).nextId = s.nextId := rfl
@[simp] theorem modPb_free (s : State) (n : PbNo) (f : Pb → Pb) : (s.modPb n f).free = s.free := rfl

/-! ### State.modEng changes `engines` alone -/

@[simp] theorem modEng_part (s : State) (e : EngNo) (f : REng → REng) : (s.modEng e f).part = s.part := rfl
@[simp] theorem modEng_rev (s : State) (e : EngNo) (f : REng → REng) : (s.modEng e f).rev = s.rev := rfl
@[simp] theorem modEng_seq (s : State) (e : EngNo) (f : REng → REng) : (s.modEng e f).seq = s.seq := rfl
@[simp] theorem modEng_res (s : State) (e : EngNo) (f : REng → REng) : (s.modEng e f).res = s.res := rfl
@[simp] theorem modEng_subs (s : State) (e : EngNo) (f : REng → REng) : (s.modEng e f).subs = s.subs := rfl
@[simp] theorem modEng_windows (s : State) (e : EngNo) (f : REng → REng) : (s.modEng e f).windows = s.windows := rfl
@[simp] theorem modEng_routes (s : State) (e : EngNo) (f : REng → REng) : (s.modEng e f).routes = s.routes := rfl
@[simp] theorem modEng_rules (s : State) (e : EngNo) (f : REng → REng) : (s.modEng e f).rules = s.rules := rfl
@[simp] theorem modEng_orders (s : State) (e : EngNo) (f : REng → REng) : (s.modEng e f).orders = s.orders := rfl
@[simp] theorem modEng_mxt (s : State) (e : EngNo) (f : REng → REng) : (s.modEng e f).mxt = s.mxt := rfl
@[simp] theorem modEng_lanes (s : State) (e : EngNo) (f : REng → REng) : (s.modEng e f).lanes = s.lanes := rfl
@[simp] theorem modEng_pb (s : State) (e : EngNo) (f : REng → REng) : (s.modEng e f).pb = s.pb := rfl
@[simp] theorem modEng_journal (s : State) (e : EngNo) (f : REng → REng) : (s.modEng e f).journal = s.journal := rfl
@[simp] theorem modEng_chans (s : State) (e : EngNo) (f : REng → REng) : (s.modEng e f).chans = s.chans := rfl
@[simp] theorem modEng_mirror (s : State) (e : EngNo) (f : REng → REng) : (s.modEng e f).mirror = s.mirror := rfl
@[simp] theorem modEng_field (s : State) (e : EngNo) (f : REng → REng) : (s.modEng e f).field = s.field := rfl
@[simp] theorem modEng_gauge (s : State) (e : EngNo) (f : REng → REng) : (s.modEng e f).gauge = s.gauge := rfl
@[simp] theorem modEng_group (s : State) (e : EngNo) (f : REng → REng) : (s.modEng e f).group = s.group := rfl
@[simp] theorem modEng_time (s : State) (e : EngNo) (f : REng → REng) : (s.modEng e f).time = s.time := rfl
@[simp] theorem modEng_sec (s : State) (e : EngNo) (f : REng → REng) : (s.modEng e f).sec = s.sec := rfl
@[simp] theorem modEng_power (s : State) (e : EngNo) (f : REng → REng) : (s.modEng e f).power = s.power := rfl
@[simp] theorem modEng_hcb (s : State) (e : EngNo) (f : REng → REng) : (s.modEng e f).hcb = s.hcb := rfl
@[simp] theorem modEng_loader (s : State) (e : EngNo) (f : REng → REng) : (s.modEng e f).loader = s.loader := rfl
@[simp] theorem modEng_pending (s : State) (e : EngNo) (f : REng → REng) : (s.modEng e f).pending = s.pending := rfl
@[simp] theorem modEng_nextId (s : State) (e : EngNo) (f : REng → REng) : (s.modEng e f).nextId = s.nextId := rfl
@[simp] theorem modEng_free (s : State) (e : EngNo) (f : REng → REng) : (s.modEng e f).free = s.free := rfl

/-! ### State.modChan changes `chans` alone -/

@[simp] theorem modChan_part (s : State) (g : ChanNo) (f : RChan → RChan) : (s.modChan g f).part = s.part := rfl
@[simp] theorem modChan_rev (s : State) (g : ChanNo) (f : RChan → RChan) : (s.modChan g f).rev = s.rev := rfl
@[simp] theorem modChan_seq (s : State) (g : ChanNo) (f : RChan → RChan) : (s.modChan g f).seq = s.seq := rfl
@[simp] theorem modChan_res (s : State) (g : ChanNo) (f : RChan → RChan) : (s.modChan g f).res = s.res := rfl
@[simp] theorem modChan_subs (s : State) (g : ChanNo) (f : RChan → RChan) : (s.modChan g f).subs = s.subs := rfl
@[simp] theorem modChan_windows (s : State) (g : ChanNo) (f : RChan → RChan) : (s.modChan g f).windows = s.windows := rfl
@[simp] theorem modChan_routes (s : State) (g : ChanNo) (f : RChan → RChan) : (s.modChan g f).routes = s.routes := rfl
@[simp] theorem modChan_rules (s : State) (g : ChanNo) (f : RChan → RChan) : (s.modChan g f).rules = s.rules := rfl
@[simp] theorem modChan_orders (s : State) (g : ChanNo) (f : RChan → RChan) : (s.modChan g f).orders = s.orders := rfl
@[simp] theorem modChan_mxt (s : State) (g : ChanNo) (f : RChan → RChan) : (s.modChan g f).mxt = s.mxt := rfl
@[simp] theorem modChan_lanes (s : State) (g : ChanNo) (f : RChan → RChan) : (s.modChan g f).lanes = s.lanes := rfl
@[simp] theorem modChan_pb (s : State) (g : ChanNo) (f : RChan → RChan) : (s.modChan g f).pb = s.pb := rfl
@[simp] theorem modChan_journal (s : State) (g : ChanNo) (f : RChan → RChan) : (s.modChan g f).journal = s.journal := rfl
@[simp] theorem modChan_engines (s : State) (g : ChanNo) (f : RChan → RChan) : (s.modChan g f).engines = s.engines := rfl
@[simp] theorem modChan_mirror (s : State) (g : ChanNo) (f : RChan → RChan) : (s.modChan g f).mirror = s.mirror := rfl
@[simp] theorem modChan_field (s : State) (g : ChanNo) (f : RChan → RChan) : (s.modChan g f).field = s.field := rfl
@[simp] theorem modChan_gauge (s : State) (g : ChanNo) (f : RChan → RChan) : (s.modChan g f).gauge = s.gauge := rfl
@[simp] theorem modChan_group (s : State) (g : ChanNo) (f : RChan → RChan) : (s.modChan g f).group = s.group := rfl
@[simp] theorem modChan_time (s : State) (g : ChanNo) (f : RChan → RChan) : (s.modChan g f).time = s.time := rfl
@[simp] theorem modChan_sec (s : State) (g : ChanNo) (f : RChan → RChan) : (s.modChan g f).sec = s.sec := rfl
@[simp] theorem modChan_power (s : State) (g : ChanNo) (f : RChan → RChan) : (s.modChan g f).power = s.power := rfl
@[simp] theorem modChan_hcb (s : State) (g : ChanNo) (f : RChan → RChan) : (s.modChan g f).hcb = s.hcb := rfl
@[simp] theorem modChan_loader (s : State) (g : ChanNo) (f : RChan → RChan) : (s.modChan g f).loader = s.loader := rfl
@[simp] theorem modChan_pending (s : State) (g : ChanNo) (f : RChan → RChan) : (s.modChan g f).pending = s.pending := rfl
@[simp] theorem modChan_nextId (s : State) (g : ChanNo) (f : RChan → RChan) : (s.modChan g f).nextId = s.nextId := rfl
@[simp] theorem modChan_free (s : State) (g : ChanNo) (f : RChan → RChan) : (s.modChan g f).free = s.free := rfl

/-! ### State.modSub changes `subs` alone -/

@[simp] theorem modSub_part (s : State) (u : Sub) (i : Nat) (f : Subsys → Subsys) : (s.modSub u i f).part = s.part := rfl
@[simp] theorem modSub_rev (s : State) (u : Sub) (i : Nat) (f : Subsys → Subsys) : (s.modSub u i f).rev = s.rev := rfl
@[simp] theorem modSub_seq (s : State) (u : Sub) (i : Nat) (f : Subsys → Subsys) : (s.modSub u i f).seq = s.seq := rfl
@[simp] theorem modSub_res (s : State) (u : Sub) (i : Nat) (f : Subsys → Subsys) : (s.modSub u i f).res = s.res := rfl
@[simp] theorem modSub_windows (s : State) (u : Sub) (i : Nat) (f : Subsys → Subsys) : (s.modSub u i f).windows = s.windows := rfl
@[simp] theorem modSub_routes (s : State) (u : Sub) (i : Nat) (f : Subsys → Subsys) : (s.modSub u i f).routes = s.routes := rfl
@[simp] theorem modSub_rules (s : State) (u : Sub) (i : Nat) (f : Subsys → Subsys) : (s.modSub u i f).rules = s.rules := rfl
@[simp] theorem modSub_orders (s : State) (u : Sub) (i : Nat) (f : Subsys → Subsys) : (s.modSub u i f).orders = s.orders := rfl
@[simp] theorem modSub_mxt (s : State) (u : Sub) (i : Nat) (f : Subsys → Subsys) : (s.modSub u i f).mxt = s.mxt := rfl
@[simp] theorem modSub_lanes (s : State) (u : Sub) (i : Nat) (f : Subsys → Subsys) : (s.modSub u i f).lanes = s.lanes := rfl
@[simp] theorem modSub_pb (s : State) (u : Sub) (i : Nat) (f : Subsys → Subsys) : (s.modSub u i f).pb = s.pb := rfl
@[simp] theorem modSub_journal (s : State) (u : Sub) (i : Nat) (f : Subsys → Subsys) : (s.modSub u i f).journal = s.journal := rfl
@[simp] theorem modSub_engines (s : State) (u : Sub) (i : Nat) (f : Subsys → Subsys) : (s.modSub u i f).engines = s.engines := rfl
@[simp] theorem modSub_chans (s : State) (u : Sub) (i : Nat) (f : Subsys → Subsys) : (s.modSub u i f).chans = s.chans := rfl
@[simp] theorem modSub_mirror (s : State) (u : Sub) (i : Nat) (f : Subsys → Subsys) : (s.modSub u i f).mirror = s.mirror := rfl
@[simp] theorem modSub_field (s : State) (u : Sub) (i : Nat) (f : Subsys → Subsys) : (s.modSub u i f).field = s.field := rfl
@[simp] theorem modSub_gauge (s : State) (u : Sub) (i : Nat) (f : Subsys → Subsys) : (s.modSub u i f).gauge = s.gauge := rfl
@[simp] theorem modSub_group (s : State) (u : Sub) (i : Nat) (f : Subsys → Subsys) : (s.modSub u i f).group = s.group := rfl
@[simp] theorem modSub_time (s : State) (u : Sub) (i : Nat) (f : Subsys → Subsys) : (s.modSub u i f).time = s.time := rfl
@[simp] theorem modSub_sec (s : State) (u : Sub) (i : Nat) (f : Subsys → Subsys) : (s.modSub u i f).sec = s.sec := rfl
@[simp] theorem modSub_power (s : State) (u : Sub) (i : Nat) (f : Subsys → Subsys) : (s.modSub u i f).power = s.power := rfl
@[simp] theorem modSub_hcb (s : State) (u : Sub) (i : Nat) (f : Subsys → Subsys) : (s.modSub u i f).hcb = s.hcb := rfl
@[simp] theorem modSub_loader (s : State) (u : Sub) (i : Nat) (f : Subsys → Subsys) : (s.modSub u i f).loader = s.loader := rfl
@[simp] theorem modSub_pending (s : State) (u : Sub) (i : Nat) (f : Subsys → Subsys) : (s.modSub u i f).pending = s.pending := rfl
@[simp] theorem modSub_nextId (s : State) (u : Sub) (i : Nat) (f : Subsys → Subsys) : (s.modSub u i f).nextId = s.nextId := rfl
@[simp] theorem modSub_free (s : State) (u : Sub) (i : Nat) (f : Subsys → Subsys) : (s.modSub u i f).free = s.free := rfl

/-! ### State.bumpMxt changes `mxt` alone -/

@[simp] theorem bumpMxt_part (s : State) (p : MxNo) (k : Nat) : (s.bumpMxt p k).part = s.part := rfl
@[simp] theorem bumpMxt_rev (s : State) (p : MxNo) (k : Nat) : (s.bumpMxt p k).rev = s.rev := rfl
@[simp] theorem bumpMxt_seq (s : State) (p : MxNo) (k : Nat) : (s.bumpMxt p k).seq = s.seq := rfl
@[simp] theorem bumpMxt_res (s : State) (p : MxNo) (k : Nat) : (s.bumpMxt p k).res = s.res := rfl
@[simp] theorem bumpMxt_subs (s : State) (p : MxNo) (k : Nat) : (s.bumpMxt p k).subs = s.subs := rfl
@[simp] theorem bumpMxt_windows (s : State) (p : MxNo) (k : Nat) : (s.bumpMxt p k).windows = s.windows := rfl
@[simp] theorem bumpMxt_routes (s : State) (p : MxNo) (k : Nat) : (s.bumpMxt p k).routes = s.routes := rfl
@[simp] theorem bumpMxt_rules (s : State) (p : MxNo) (k : Nat) : (s.bumpMxt p k).rules = s.rules := rfl
@[simp] theorem bumpMxt_orders (s : State) (p : MxNo) (k : Nat) : (s.bumpMxt p k).orders = s.orders := rfl
@[simp] theorem bumpMxt_lanes (s : State) (p : MxNo) (k : Nat) : (s.bumpMxt p k).lanes = s.lanes := rfl
@[simp] theorem bumpMxt_pb (s : State) (p : MxNo) (k : Nat) : (s.bumpMxt p k).pb = s.pb := rfl
@[simp] theorem bumpMxt_journal (s : State) (p : MxNo) (k : Nat) : (s.bumpMxt p k).journal = s.journal := rfl
@[simp] theorem bumpMxt_engines (s : State) (p : MxNo) (k : Nat) : (s.bumpMxt p k).engines = s.engines := rfl
@[simp] theorem bumpMxt_chans (s : State) (p : MxNo) (k : Nat) : (s.bumpMxt p k).chans = s.chans := rfl
@[simp] theorem bumpMxt_mirror (s : State) (p : MxNo) (k : Nat) : (s.bumpMxt p k).mirror = s.mirror := rfl
@[simp] theorem bumpMxt_field (s : State) (p : MxNo) (k : Nat) : (s.bumpMxt p k).field = s.field := rfl
@[simp] theorem bumpMxt_gauge (s : State) (p : MxNo) (k : Nat) : (s.bumpMxt p k).gauge = s.gauge := rfl
@[simp] theorem bumpMxt_group (s : State) (p : MxNo) (k : Nat) : (s.bumpMxt p k).group = s.group := rfl
@[simp] theorem bumpMxt_time (s : State) (p : MxNo) (k : Nat) : (s.bumpMxt p k).time = s.time := rfl
@[simp] theorem bumpMxt_sec (s : State) (p : MxNo) (k : Nat) : (s.bumpMxt p k).sec = s.sec := rfl
@[simp] theorem bumpMxt_power (s : State) (p : MxNo) (k : Nat) : (s.bumpMxt p k).power = s.power := rfl
@[simp] theorem bumpMxt_hcb (s : State) (p : MxNo) (k : Nat) : (s.bumpMxt p k).hcb = s.hcb := rfl
@[simp] theorem bumpMxt_loader (s : State) (p : MxNo) (k : Nat) : (s.bumpMxt p k).loader = s.loader := rfl
@[simp] theorem bumpMxt_pending (s : State) (p : MxNo) (k : Nat) : (s.bumpMxt p k).pending = s.pending := rfl
@[simp] theorem bumpMxt_nextId (s : State) (p : MxNo) (k : Nat) : (s.bumpMxt p k).nextId = s.nextId := rfl
@[simp] theorem bumpMxt_free (s : State) (p : MxNo) (k : Nat) : (s.bumpMxt p k).free = s.free := rfl

/-! ### State.bumpLn changes `lanes` alone -/

@[simp] theorem bumpLn_part (s : State) (p : MxNo) (k : Nat) : (s.bumpLn p k).part = s.part := rfl
@[simp] theorem bumpLn_rev (s : State) (p : MxNo) (k : Nat) : (s.bumpLn p k).rev = s.rev := rfl
@[simp] theorem bumpLn_seq (s : State) (p : MxNo) (k : Nat) : (s.bumpLn p k).seq = s.seq := rfl
@[simp] theorem bumpLn_res (s : State) (p : MxNo) (k : Nat) : (s.bumpLn p k).res = s.res := rfl
@[simp] theorem bumpLn_subs (s : State) (p : MxNo) (k : Nat) : (s.bumpLn p k).subs = s.subs := rfl
@[simp] theorem bumpLn_windows (s : State) (p : MxNo) (k : Nat) : (s.bumpLn p k).windows = s.windows := rfl
@[simp] theorem bumpLn_routes (s : State) (p : MxNo) (k : Nat) : (s.bumpLn p k).routes = s.routes := rfl
@[simp] theorem bumpLn_rules (s : State) (p : MxNo) (k : Nat) : (s.bumpLn p k).rules = s.rules := rfl
@[simp] theorem bumpLn_orders (s : State) (p : MxNo) (k : Nat) : (s.bumpLn p k).orders = s.orders := rfl
@[simp] theorem bumpLn_mxt (s : State) (p : MxNo) (k : Nat) : (s.bumpLn p k).mxt = s.mxt := rfl
@[simp] theorem bumpLn_pb (s : State) (p : MxNo) (k : Nat) : (s.bumpLn p k).pb = s.pb := rfl
@[simp] theorem bumpLn_journal (s : State) (p : MxNo) (k : Nat) : (s.bumpLn p k).journal = s.journal := rfl
@[simp] theorem bumpLn_engines (s : State) (p : MxNo) (k : Nat) : (s.bumpLn p k).engines = s.engines := rfl
@[simp] theorem bumpLn_chans (s : State) (p : MxNo) (k : Nat) : (s.bumpLn p k).chans = s.chans := rfl
@[simp] theorem bumpLn_mirror (s : State) (p : MxNo) (k : Nat) : (s.bumpLn p k).mirror = s.mirror := rfl
@[simp] theorem bumpLn_field (s : State) (p : MxNo) (k : Nat) : (s.bumpLn p k).field = s.field := rfl
@[simp] theorem bumpLn_gauge (s : State) (p : MxNo) (k : Nat) : (s.bumpLn p k).gauge = s.gauge := rfl
@[simp] theorem bumpLn_group (s : State) (p : MxNo) (k : Nat) : (s.bumpLn p k).group = s.group := rfl
@[simp] theorem bumpLn_time (s : State) (p : MxNo) (k : Nat) : (s.bumpLn p k).time = s.time := rfl
@[simp] theorem bumpLn_sec (s : State) (p : MxNo) (k : Nat) : (s.bumpLn p k).sec = s.sec := rfl
@[simp] theorem bumpLn_power (s : State) (p : MxNo) (k : Nat) : (s.bumpLn p k).power = s.power := rfl
@[simp] theorem bumpLn_hcb (s : State) (p : MxNo) (k : Nat) : (s.bumpLn p k).hcb = s.hcb := rfl
@[simp] theorem bumpLn_loader (s : State) (p : MxNo) (k : Nat) : (s.bumpLn p k).loader = s.loader := rfl
@[simp] theorem bumpLn_pending (s : State) (p : MxNo) (k : Nat) : (s.bumpLn p k).pending = s.pending := rfl
@[simp] theorem bumpLn_nextId (s : State) (p : MxNo) (k : Nat) : (s.bumpLn p k).nextId = s.nextId := rfl
@[simp] theorem bumpLn_free (s : State) (p : MxNo) (k : Nat) : (s.bumpLn p k).free = s.free := rfl

/-! ### State.bumpPb changes `pb` alone -/

@[simp] theorem bumpPb_part (s : State) (n : PbNo) (k : Nat) : (s.bumpPb n k).part = s.part := rfl
@[simp] theorem bumpPb_rev (s : State) (n : PbNo) (k : Nat) : (s.bumpPb n k).rev = s.rev := rfl
@[simp] theorem bumpPb_seq (s : State) (n : PbNo) (k : Nat) : (s.bumpPb n k).seq = s.seq := rfl
@[simp] theorem bumpPb_res (s : State) (n : PbNo) (k : Nat) : (s.bumpPb n k).res = s.res := rfl
@[simp] theorem bumpPb_subs (s : State) (n : PbNo) (k : Nat) : (s.bumpPb n k).subs = s.subs := rfl
@[simp] theorem bumpPb_windows (s : State) (n : PbNo) (k : Nat) : (s.bumpPb n k).windows = s.windows := rfl
@[simp] theorem bumpPb_routes (s : State) (n : PbNo) (k : Nat) : (s.bumpPb n k).routes = s.routes := rfl
@[simp] theorem bumpPb_rules (s : State) (n : PbNo) (k : Nat) : (s.bumpPb n k).rules = s.rules := rfl
@[simp] theorem bumpPb_orders (s : State) (n : PbNo) (k : Nat) : (s.bumpPb n k).orders = s.orders := rfl
@[simp] theorem bumpPb_mxt (s : State) (n : PbNo) (k : Nat) : (s.bumpPb n k).mxt = s.mxt := rfl
@[simp] theorem bumpPb_lanes (s : State) (n : PbNo) (k : Nat) : (s.bumpPb n k).lanes = s.lanes := rfl
@[simp] theorem bumpPb_journal (s : State) (n : PbNo) (k : Nat) : (s.bumpPb n k).journal = s.journal := rfl
@[simp] theorem bumpPb_engines (s : State) (n : PbNo) (k : Nat) : (s.bumpPb n k).engines = s.engines := rfl
@[simp] theorem bumpPb_chans (s : State) (n : PbNo) (k : Nat) : (s.bumpPb n k).chans = s.chans := rfl
@[simp] theorem bumpPb_mirror (s : State) (n : PbNo) (k : Nat) : (s.bumpPb n k).mirror = s.mirror := rfl
@[simp] theorem bumpPb_field (s : State) (n : PbNo) (k : Nat) : (s.bumpPb n k).field = s.field := rfl
@[simp] theorem bumpPb_gauge (s : State) (n : PbNo) (k : Nat) : (s.bumpPb n k).gauge = s.gauge := rfl
@[simp] theorem bumpPb_group (s : State) (n : PbNo) (k : Nat) : (s.bumpPb n k).group = s.group := rfl
@[simp] theorem bumpPb_time (s : State) (n : PbNo) (k : Nat) : (s.bumpPb n k).time = s.time := rfl
@[simp] theorem bumpPb_sec (s : State) (n : PbNo) (k : Nat) : (s.bumpPb n k).sec = s.sec := rfl
@[simp] theorem bumpPb_power (s : State) (n : PbNo) (k : Nat) : (s.bumpPb n k).power = s.power := rfl
@[simp] theorem bumpPb_hcb (s : State) (n : PbNo) (k : Nat) : (s.bumpPb n k).hcb = s.hcb := rfl
@[simp] theorem bumpPb_loader (s : State) (n : PbNo) (k : Nat) : (s.bumpPb n k).loader = s.loader := rfl
@[simp] theorem bumpPb_pending (s : State) (n : PbNo) (k : Nat) : (s.bumpPb n k).pending = s.pending := rfl
@[simp] theorem bumpPb_nextId (s : State) (n : PbNo) (k : Nat) : (s.bumpPb n k).nextId = s.nextId := rfl
@[simp] theorem bumpPb_free (s : State) (n : PbNo) (k : Nat) : (s.bumpPb n k).free = s.free := rfl

/-! ### State.bumpWeir changes `pb` alone -/

@[simp] theorem bumpWeir_part (s : State) (n : PbNo) (k : Nat) : (s.bumpWeir n k).part = s.part := rfl
@[simp] theorem bumpWeir_rev (s : State) (n : PbNo) (k : Nat) : (s.bumpWeir n k).rev = s.rev := rfl
@[simp] theorem bumpWeir_seq (s : State) (n : PbNo) (k : Nat) : (s.bumpWeir n k).seq = s.seq := rfl
@[simp] theorem bumpWeir_res (s : State) (n : PbNo) (k : Nat) : (s.bumpWeir n k).res = s.res := rfl
@[simp] theorem bumpWeir_subs (s : State) (n : PbNo) (k : Nat) : (s.bumpWeir n k).subs = s.subs := rfl
@[simp] theorem bumpWeir_windows (s : State) (n : PbNo) (k : Nat) : (s.bumpWeir n k).windows = s.windows := rfl
@[simp] theorem bumpWeir_routes (s : State) (n : PbNo) (k : Nat) : (s.bumpWeir n k).routes = s.routes := rfl
@[simp] theorem bumpWeir_rules (s : State) (n : PbNo) (k : Nat) : (s.bumpWeir n k).rules = s.rules := rfl
@[simp] theorem bumpWeir_orders (s : State) (n : PbNo) (k : Nat) : (s.bumpWeir n k).orders = s.orders := rfl
@[simp] theorem bumpWeir_mxt (s : State) (n : PbNo) (k : Nat) : (s.bumpWeir n k).mxt = s.mxt := rfl
@[simp] theorem bumpWeir_lanes (s : State) (n : PbNo) (k : Nat) : (s.bumpWeir n k).lanes = s.lanes := rfl
@[simp] theorem bumpWeir_journal (s : State) (n : PbNo) (k : Nat) : (s.bumpWeir n k).journal = s.journal := rfl
@[simp] theorem bumpWeir_engines (s : State) (n : PbNo) (k : Nat) : (s.bumpWeir n k).engines = s.engines := rfl
@[simp] theorem bumpWeir_chans (s : State) (n : PbNo) (k : Nat) : (s.bumpWeir n k).chans = s.chans := rfl
@[simp] theorem bumpWeir_mirror (s : State) (n : PbNo) (k : Nat) : (s.bumpWeir n k).mirror = s.mirror := rfl
@[simp] theorem bumpWeir_field (s : State) (n : PbNo) (k : Nat) : (s.bumpWeir n k).field = s.field := rfl
@[simp] theorem bumpWeir_gauge (s : State) (n : PbNo) (k : Nat) : (s.bumpWeir n k).gauge = s.gauge := rfl
@[simp] theorem bumpWeir_group (s : State) (n : PbNo) (k : Nat) : (s.bumpWeir n k).group = s.group := rfl
@[simp] theorem bumpWeir_time (s : State) (n : PbNo) (k : Nat) : (s.bumpWeir n k).time = s.time := rfl
@[simp] theorem bumpWeir_sec (s : State) (n : PbNo) (k : Nat) : (s.bumpWeir n k).sec = s.sec := rfl
@[simp] theorem bumpWeir_power (s : State) (n : PbNo) (k : Nat) : (s.bumpWeir n k).power = s.power := rfl
@[simp] theorem bumpWeir_hcb (s : State) (n : PbNo) (k : Nat) : (s.bumpWeir n k).hcb = s.hcb := rfl
@[simp] theorem bumpWeir_loader (s : State) (n : PbNo) (k : Nat) : (s.bumpWeir n k).loader = s.loader := rfl
@[simp] theorem bumpWeir_pending (s : State) (n : PbNo) (k : Nat) : (s.bumpWeir n k).pending = s.pending := rfl
@[simp] theorem bumpWeir_nextId (s : State) (n : PbNo) (k : Nat) : (s.bumpWeir n k).nextId = s.nextId := rfl
@[simp] theorem bumpWeir_free (s : State) (n : PbNo) (k : Nat) : (s.bumpWeir n k).free = s.free := rfl

/-! ### State.bumpJ changes `journal` alone -/

@[simp] theorem bumpJ_part (s : State) (k : Nat) : (s.bumpJ k).part = s.part := rfl
@[simp] theorem bumpJ_rev (s : State) (k : Nat) : (s.bumpJ k).rev = s.rev := rfl
@[simp] theorem bumpJ_seq (s : State) (k : Nat) : (s.bumpJ k).seq = s.seq := rfl
@[simp] theorem bumpJ_res (s : State) (k : Nat) : (s.bumpJ k).res = s.res := rfl
@[simp] theorem bumpJ_subs (s : State) (k : Nat) : (s.bumpJ k).subs = s.subs := rfl
@[simp] theorem bumpJ_windows (s : State) (k : Nat) : (s.bumpJ k).windows = s.windows := rfl
@[simp] theorem bumpJ_routes (s : State) (k : Nat) : (s.bumpJ k).routes = s.routes := rfl
@[simp] theorem bumpJ_rules (s : State) (k : Nat) : (s.bumpJ k).rules = s.rules := rfl
@[simp] theorem bumpJ_orders (s : State) (k : Nat) : (s.bumpJ k).orders = s.orders := rfl
@[simp] theorem bumpJ_mxt (s : State) (k : Nat) : (s.bumpJ k).mxt = s.mxt := rfl
@[simp] theorem bumpJ_lanes (s : State) (k : Nat) : (s.bumpJ k).lanes = s.lanes := rfl
@[simp] theorem bumpJ_pb (s : State) (k : Nat) : (s.bumpJ k).pb = s.pb := rfl
@[simp] theorem bumpJ_engines (s : State) (k : Nat) : (s.bumpJ k).engines = s.engines := rfl
@[simp] theorem bumpJ_chans (s : State) (k : Nat) : (s.bumpJ k).chans = s.chans := rfl
@[simp] theorem bumpJ_mirror (s : State) (k : Nat) : (s.bumpJ k).mirror = s.mirror := rfl
@[simp] theorem bumpJ_field (s : State) (k : Nat) : (s.bumpJ k).field = s.field := rfl
@[simp] theorem bumpJ_gauge (s : State) (k : Nat) : (s.bumpJ k).gauge = s.gauge := rfl
@[simp] theorem bumpJ_group (s : State) (k : Nat) : (s.bumpJ k).group = s.group := rfl
@[simp] theorem bumpJ_time (s : State) (k : Nat) : (s.bumpJ k).time = s.time := rfl
@[simp] theorem bumpJ_sec (s : State) (k : Nat) : (s.bumpJ k).sec = s.sec := rfl
@[simp] theorem bumpJ_power (s : State) (k : Nat) : (s.bumpJ k).power = s.power := rfl
@[simp] theorem bumpJ_hcb (s : State) (k : Nat) : (s.bumpJ k).hcb = s.hcb := rfl
@[simp] theorem bumpJ_loader (s : State) (k : Nat) : (s.bumpJ k).loader = s.loader := rfl
@[simp] theorem bumpJ_pending (s : State) (k : Nat) : (s.bumpJ k).pending = s.pending := rfl
@[simp] theorem bumpJ_nextId (s : State) (k : Nat) : (s.bumpJ k).nextId = s.nextId := rfl
@[simp] theorem bumpJ_free (s : State) (k : Nat) : (s.bumpJ k).free = s.free := rfl

/-! ### State.bumpLev changes `sec` alone -/

@[simp] theorem bumpLev_part (s : State) (k : Nat) : (s.bumpLev k).part = s.part := rfl
@[simp] theorem bumpLev_rev (s : State) (k : Nat) : (s.bumpLev k).rev = s.rev := rfl
@[simp] theorem bumpLev_seq (s : State) (k : Nat) : (s.bumpLev k).seq = s.seq := rfl
@[simp] theorem bumpLev_res (s : State) (k : Nat) : (s.bumpLev k).res = s.res := rfl
@[simp] theorem bumpLev_subs (s : State) (k : Nat) : (s.bumpLev k).subs = s.subs := rfl
@[simp] theorem bumpLev_windows (s : State) (k : Nat) : (s.bumpLev k).windows = s.windows := rfl
@[simp] theorem bumpLev_routes (s : State) (k : Nat) : (s.bumpLev k).routes = s.routes := rfl
@[simp] theorem bumpLev_rules (s : State) (k : Nat) : (s.bumpLev k).rules = s.rules := rfl
@[simp] theorem bumpLev_orders (s : State) (k : Nat) : (s.bumpLev k).orders = s.orders := rfl
@[simp] theorem bumpLev_mxt (s : State) (k : Nat) : (s.bumpLev k).mxt = s.mxt := rfl
@[simp] theorem bumpLev_lanes (s : State) (k : Nat) : (s.bumpLev k).lanes = s.lanes := rfl
@[simp] theorem bumpLev_pb (s : State) (k : Nat) : (s.bumpLev k).pb = s.pb := rfl
@[simp] theorem bumpLev_journal (s : State) (k : Nat) : (s.bumpLev k).journal = s.journal := rfl
@[simp] theorem bumpLev_engines (s : State) (k : Nat) : (s.bumpLev k).engines = s.engines := rfl
@[simp] theorem bumpLev_chans (s : State) (k : Nat) : (s.bumpLev k).chans = s.chans := rfl
@[simp] theorem bumpLev_mirror (s : State) (k : Nat) : (s.bumpLev k).mirror = s.mirror := rfl
@[simp] theorem bumpLev_field (s : State) (k : Nat) : (s.bumpLev k).field = s.field := rfl
@[simp] theorem bumpLev_gauge (s : State) (k : Nat) : (s.bumpLev k).gauge = s.gauge := rfl
@[simp] theorem bumpLev_group (s : State) (k : Nat) : (s.bumpLev k).group = s.group := rfl
@[simp] theorem bumpLev_time (s : State) (k : Nat) : (s.bumpLev k).time = s.time := rfl
@[simp] theorem bumpLev_power (s : State) (k : Nat) : (s.bumpLev k).power = s.power := rfl
@[simp] theorem bumpLev_hcb (s : State) (k : Nat) : (s.bumpLev k).hcb = s.hcb := rfl
@[simp] theorem bumpLev_loader (s : State) (k : Nat) : (s.bumpLev k).loader = s.loader := rfl
@[simp] theorem bumpLev_pending (s : State) (k : Nat) : (s.bumpLev k).pending = s.pending := rfl
@[simp] theorem bumpLev_nextId (s : State) (k : Nat) : (s.bumpLev k).nextId = s.nextId := rfl
@[simp] theorem bumpLev_free (s : State) (k : Nat) : (s.bumpLev k).free = s.free := rfl

/-! ### State.bumpGrp changes `group` alone -/

@[simp] theorem bumpGrp_part (s : State) (k : Nat) : (s.bumpGrp k).part = s.part := rfl
@[simp] theorem bumpGrp_rev (s : State) (k : Nat) : (s.bumpGrp k).rev = s.rev := rfl
@[simp] theorem bumpGrp_seq (s : State) (k : Nat) : (s.bumpGrp k).seq = s.seq := rfl
@[simp] theorem bumpGrp_res (s : State) (k : Nat) : (s.bumpGrp k).res = s.res := rfl
@[simp] theorem bumpGrp_subs (s : State) (k : Nat) : (s.bumpGrp k).subs = s.subs := rfl
@[simp] theorem bumpGrp_windows (s : State) (k : Nat) : (s.bumpGrp k).windows = s.windows := rfl
@[simp] theorem bumpGrp_routes (s : State) (k : Nat) : (s.bumpGrp k).routes = s.routes := rfl
@[simp] theorem bumpGrp_rules (s : State) (k : Nat) : (s.bumpGrp k).rules = s.rules := rfl
@[simp] theorem bumpGrp_orders (s : State) (k : Nat) : (s.bumpGrp k).orders = s.orders := rfl
@[simp] theorem bumpGrp_mxt (s : State) (k : Nat) : (s.bumpGrp k).mxt = s.mxt := rfl
@[simp] theorem bumpGrp_lanes (s : State) (k : Nat) : (s.bumpGrp k).lanes = s.lanes := rfl
@[simp] theorem bumpGrp_pb (s : State) (k : Nat) : (s.bumpGrp k).pb = s.pb := rfl
@[simp] theorem bumpGrp_journal (s : State) (k : Nat) : (s.bumpGrp k).journal = s.journal := rfl
@[simp] theorem bumpGrp_engines (s : State) (k : Nat) : (s.bumpGrp k).engines = s.engines := rfl
@[simp] theorem bumpGrp_chans (s : State) (k : Nat) : (s.bumpGrp k).chans = s.chans := rfl
@[simp] theorem bumpGrp_mirror (s : State) (k : Nat) : (s.bumpGrp k).mirror = s.mirror := rfl
@[simp] theorem bumpGrp_field (s : State) (k : Nat) : (s.bumpGrp k).field = s.field := rfl
@[simp] theorem bumpGrp_gauge (s : State) (k : Nat) : (s.bumpGrp k).gauge = s.gauge := rfl
@[simp] theorem bumpGrp_time (s : State) (k : Nat) : (s.bumpGrp k).time = s.time := rfl
@[simp] theorem bumpGrp_sec (s : State) (k : Nat) : (s.bumpGrp k).sec = s.sec := rfl
@[simp] theorem bumpGrp_power (s : State) (k : Nat) : (s.bumpGrp k).power = s.power := rfl
@[simp] theorem bumpGrp_hcb (s : State) (k : Nat) : (s.bumpGrp k).hcb = s.hcb := rfl
@[simp] theorem bumpGrp_loader (s : State) (k : Nat) : (s.bumpGrp k).loader = s.loader := rfl
@[simp] theorem bumpGrp_pending (s : State) (k : Nat) : (s.bumpGrp k).pending = s.pending := rfl
@[simp] theorem bumpGrp_nextId (s : State) (k : Nat) : (s.bumpGrp k).nextId = s.nextId := rfl
@[simp] theorem bumpGrp_free (s : State) (k : Nat) : (s.bumpGrp k).free = s.free := rfl

/-! ### State.bumpField changes `field` alone -/

@[simp] theorem bumpField_part (s : State) (k : Nat) : (s.bumpField k).part = s.part := rfl
@[simp] theorem bumpField_rev (s : State) (k : Nat) : (s.bumpField k).rev = s.rev := rfl
@[simp] theorem bumpField_seq (s : State) (k : Nat) : (s.bumpField k).seq = s.seq := rfl
@[simp] theorem bumpField_res (s : State) (k : Nat) : (s.bumpField k).res = s.res := rfl
@[simp] theorem bumpField_subs (s : State) (k : Nat) : (s.bumpField k).subs = s.subs := rfl
@[simp] theorem bumpField_windows (s : State) (k : Nat) : (s.bumpField k).windows = s.windows := rfl
@[simp] theorem bumpField_routes (s : State) (k : Nat) : (s.bumpField k).routes = s.routes := rfl
@[simp] theorem bumpField_rules (s : State) (k : Nat) : (s.bumpField k).rules = s.rules := rfl
@[simp] theorem bumpField_orders (s : State) (k : Nat) : (s.bumpField k).orders = s.orders := rfl
@[simp] theorem bumpField_mxt (s : State) (k : Nat) : (s.bumpField k).mxt = s.mxt := rfl
@[simp] theorem bumpField_lanes (s : State) (k : Nat) : (s.bumpField k).lanes = s.lanes := rfl
@[simp] theorem bumpField_pb (s : State) (k : Nat) : (s.bumpField k).pb = s.pb := rfl
@[simp] theorem bumpField_journal (s : State) (k : Nat) : (s.bumpField k).journal = s.journal := rfl
@[simp] theorem bumpField_engines (s : State) (k : Nat) : (s.bumpField k).engines = s.engines := rfl
@[simp] theorem bumpField_chans (s : State) (k : Nat) : (s.bumpField k).chans = s.chans := rfl
@[simp] theorem bumpField_mirror (s : State) (k : Nat) : (s.bumpField k).mirror = s.mirror := rfl
@[simp] theorem bumpField_gauge (s : State) (k : Nat) : (s.bumpField k).gauge = s.gauge := rfl
@[simp] theorem bumpField_group (s : State) (k : Nat) : (s.bumpField k).group = s.group := rfl
@[simp] theorem bumpField_time (s : State) (k : Nat) : (s.bumpField k).time = s.time := rfl
@[simp] theorem bumpField_sec (s : State) (k : Nat) : (s.bumpField k).sec = s.sec := rfl
@[simp] theorem bumpField_power (s : State) (k : Nat) : (s.bumpField k).power = s.power := rfl
@[simp] theorem bumpField_hcb (s : State) (k : Nat) : (s.bumpField k).hcb = s.hcb := rfl
@[simp] theorem bumpField_loader (s : State) (k : Nat) : (s.bumpField k).loader = s.loader := rfl
@[simp] theorem bumpField_pending (s : State) (k : Nat) : (s.bumpField k).pending = s.pending := rfl
@[simp] theorem bumpField_nextId (s : State) (k : Nat) : (s.bumpField k).nextId = s.nextId := rfl
@[simp] theorem bumpField_free (s : State) (k : Nat) : (s.bumpField k).free = s.free := rfl

/-! ### State.fresh changes `nextId` alone -/

@[simp] theorem fresh_part (s : State) (k : Nat) : (s.fresh k).part = s.part := rfl
@[simp] theorem fresh_rev (s : State) (k : Nat) : (s.fresh k).rev = s.rev := rfl
@[simp] theorem fresh_seq (s : State) (k : Nat) : (s.fresh k).seq = s.seq := rfl
@[simp] theorem fresh_res (s : State) (k : Nat) : (s.fresh k).res = s.res := rfl
@[simp] theorem fresh_subs (s : State) (k : Nat) : (s.fresh k).subs = s.subs := rfl
@[simp] theorem fresh_windows (s : State) (k : Nat) : (s.fresh k).windows = s.windows := rfl
@[simp] theorem fresh_routes (s : State) (k : Nat) : (s.fresh k).routes = s.routes := rfl
@[simp] theorem fresh_rules (s : State) (k : Nat) : (s.fresh k).rules = s.rules := rfl
@[simp] theorem fresh_orders (s : State) (k : Nat) : (s.fresh k).orders = s.orders := rfl
@[simp] theorem fresh_mxt (s : State) (k : Nat) : (s.fresh k).mxt = s.mxt := rfl
@[simp] theorem fresh_lanes (s : State) (k : Nat) : (s.fresh k).lanes = s.lanes := rfl
@[simp] theorem fresh_pb (s : State) (k : Nat) : (s.fresh k).pb = s.pb := rfl
@[simp] theorem fresh_journal (s : State) (k : Nat) : (s.fresh k).journal = s.journal := rfl
@[simp] theorem fresh_engines (s : State) (k : Nat) : (s.fresh k).engines = s.engines := rfl
@[simp] theorem fresh_chans (s : State) (k : Nat) : (s.fresh k).chans = s.chans := rfl
@[simp] theorem fresh_mirror (s : State) (k : Nat) : (s.fresh k).mirror = s.mirror := rfl
@[simp] theorem fresh_field (s : State) (k : Nat) : (s.fresh k).field = s.field := rfl
@[simp] theorem fresh_gauge (s : State) (k : Nat) : (s.fresh k).gauge = s.gauge := rfl
@[simp] theorem fresh_group (s : State) (k : Nat) : (s.fresh k).group = s.group := rfl
@[simp] theorem fresh_time (s : State) (k : Nat) : (s.fresh k).time = s.time := rfl
@[simp] theorem fresh_sec (s : State) (k : Nat) : (s.fresh k).sec = s.sec := rfl
@[simp] theorem fresh_power (s : State) (k : Nat) : (s.fresh k).power = s.power := rfl
@[simp] theorem fresh_hcb (s : State) (k : Nat) : (s.fresh k).hcb = s.hcb := rfl
@[simp] theorem fresh_loader (s : State) (k : Nat) : (s.fresh k).loader = s.loader := rfl
@[simp] theorem fresh_pending (s : State) (k : Nat) : (s.fresh k).pending = s.pending := rfl
@[simp] theorem fresh_free (s : State) (k : Nat) : (s.fresh k).free = s.free := rfl

/-! ### State.modMirror changes `mirror` alone -/

@[simp] theorem modMirror_part (s : State) (g : ChanNo) (f : ChanMirror → ChanMirror) : (s.modMirror g f).part = s.part := rfl
@[simp] theorem modMirror_rev (s : State) (g : ChanNo) (f : ChanMirror → ChanMirror) : (s.modMirror g f).rev = s.rev := rfl
@[simp] theorem modMirror_seq (s : State) (g : ChanNo) (f : ChanMirror → ChanMirror) : (s.modMirror g f).seq = s.seq := rfl
@[simp] theorem modMirror_res (s : State) (g : ChanNo) (f : ChanMirror → ChanMirror) : (s.modMirror g f).res = s.res := rfl
@[simp] theorem modMirror_subs (s : State) (g : ChanNo) (f : ChanMirror → ChanMirror) : (s.modMirror g f).subs = s.subs := rfl
@[simp] theorem modMirror_windows (s : State) (g : ChanNo) (f : ChanMirror → ChanMirror) : (s.modMirror g f).windows = s.windows := rfl
@[simp] theorem modMirror_routes (s : State) (g : ChanNo) (f : ChanMirror → ChanMirror) : (s.modMirror g f).routes = s.routes := rfl
@[simp] theorem modMirror_rules (s : State) (g : ChanNo) (f : ChanMirror → ChanMirror) : (s.modMirror g f).rules = s.rules := rfl
@[simp] theorem modMirror_orders (s : State) (g : ChanNo) (f : ChanMirror → ChanMirror) : (s.modMirror g f).orders = s.orders := rfl
@[simp] theorem modMirror_mxt (s : State) (g : ChanNo) (f : ChanMirror → ChanMirror) : (s.modMirror g f).mxt = s.mxt := rfl
@[simp] theorem modMirror_lanes (s : State) (g : ChanNo) (f : ChanMirror → ChanMirror) : (s.modMirror g f).lanes = s.lanes := rfl
@[simp] theorem modMirror_pb (s : State) (g : ChanNo) (f : ChanMirror → ChanMirror) : (s.modMirror g f).pb = s.pb := rfl
@[simp] theorem modMirror_journal (s : State) (g : ChanNo) (f : ChanMirror → ChanMirror) : (s.modMirror g f).journal = s.journal := rfl
@[simp] theorem modMirror_engines (s : State) (g : ChanNo) (f : ChanMirror → ChanMirror) : (s.modMirror g f).engines = s.engines := rfl
@[simp] theorem modMirror_chans (s : State) (g : ChanNo) (f : ChanMirror → ChanMirror) : (s.modMirror g f).chans = s.chans := rfl
@[simp] theorem modMirror_field (s : State) (g : ChanNo) (f : ChanMirror → ChanMirror) : (s.modMirror g f).field = s.field := rfl
@[simp] theorem modMirror_gauge (s : State) (g : ChanNo) (f : ChanMirror → ChanMirror) : (s.modMirror g f).gauge = s.gauge := rfl
@[simp] theorem modMirror_group (s : State) (g : ChanNo) (f : ChanMirror → ChanMirror) : (s.modMirror g f).group = s.group := rfl
@[simp] theorem modMirror_time (s : State) (g : ChanNo) (f : ChanMirror → ChanMirror) : (s.modMirror g f).time = s.time := rfl
@[simp] theorem modMirror_sec (s : State) (g : ChanNo) (f : ChanMirror → ChanMirror) : (s.modMirror g f).sec = s.sec := rfl
@[simp] theorem modMirror_power (s : State) (g : ChanNo) (f : ChanMirror → ChanMirror) : (s.modMirror g f).power = s.power := rfl
@[simp] theorem modMirror_hcb (s : State) (g : ChanNo) (f : ChanMirror → ChanMirror) : (s.modMirror g f).hcb = s.hcb := rfl
@[simp] theorem modMirror_loader (s : State) (g : ChanNo) (f : ChanMirror → ChanMirror) : (s.modMirror g f).loader = s.loader := rfl
@[simp] theorem modMirror_pending (s : State) (g : ChanNo) (f : ChanMirror → ChanMirror) : (s.modMirror g f).pending = s.pending := rfl
@[simp] theorem modMirror_nextId (s : State) (g : ChanNo) (f : ChanMirror → ChanMirror) : (s.modMirror g f).nextId = s.nextId := rfl
@[simp] theorem modMirror_free (s : State) (g : ChanNo) (f : ChanMirror → ChanMirror) : (s.modMirror g f).free = s.free := rfl

/-! ### State.setSdo changes `hcb` alone -/

@[simp] theorem setSdo_part (s : State) (l : Option (List Byte)) : (s.setSdo l).part = s.part := rfl
@[simp] theorem setSdo_rev (s : State) (l : Option (List Byte)) : (s.setSdo l).rev = s.rev := rfl
@[simp] theorem setSdo_seq (s : State) (l : Option (List Byte)) : (s.setSdo l).seq = s.seq := rfl
@[simp] theorem setSdo_res (s : State) (l : Option (List Byte)) : (s.setSdo l).res = s.res := rfl
@[simp] theorem setSdo_subs (s : State) (l : Option (List Byte)) : (s.setSdo l).subs = s.subs := rfl
@[simp] theorem setSdo_windows (s : State) (l : Option (List Byte)) : (s.setSdo l).windows = s.windows := rfl
@[simp] theorem setSdo_routes (s : State) (l : Option (List Byte)) : (s.setSdo l).routes = s.routes := rfl
@[simp] theorem setSdo_rules (s : State) (l : Option (List Byte)) : (s.setSdo l).rules = s.rules := rfl
@[simp] theorem setSdo_orders (s : State) (l : Option (List Byte)) : (s.setSdo l).orders = s.orders := rfl
@[simp] theorem setSdo_mxt (s : State) (l : Option (List Byte)) : (s.setSdo l).mxt = s.mxt := rfl
@[simp] theorem setSdo_lanes (s : State) (l : Option (List Byte)) : (s.setSdo l).lanes = s.lanes := rfl
@[simp] theorem setSdo_pb (s : State) (l : Option (List Byte)) : (s.setSdo l).pb = s.pb := rfl
@[simp] theorem setSdo_journal (s : State) (l : Option (List Byte)) : (s.setSdo l).journal = s.journal := rfl
@[simp] theorem setSdo_engines (s : State) (l : Option (List Byte)) : (s.setSdo l).engines = s.engines := rfl
@[simp] theorem setSdo_chans (s : State) (l : Option (List Byte)) : (s.setSdo l).chans = s.chans := rfl
@[simp] theorem setSdo_mirror (s : State) (l : Option (List Byte)) : (s.setSdo l).mirror = s.mirror := rfl
@[simp] theorem setSdo_field (s : State) (l : Option (List Byte)) : (s.setSdo l).field = s.field := rfl
@[simp] theorem setSdo_gauge (s : State) (l : Option (List Byte)) : (s.setSdo l).gauge = s.gauge := rfl
@[simp] theorem setSdo_group (s : State) (l : Option (List Byte)) : (s.setSdo l).group = s.group := rfl
@[simp] theorem setSdo_time (s : State) (l : Option (List Byte)) : (s.setSdo l).time = s.time := rfl
@[simp] theorem setSdo_sec (s : State) (l : Option (List Byte)) : (s.setSdo l).sec = s.sec := rfl
@[simp] theorem setSdo_power (s : State) (l : Option (List Byte)) : (s.setSdo l).power = s.power := rfl
@[simp] theorem setSdo_loader (s : State) (l : Option (List Byte)) : (s.setSdo l).loader = s.loader := rfl
@[simp] theorem setSdo_pending (s : State) (l : Option (List Byte)) : (s.setSdo l).pending = s.pending := rfl
@[simp] theorem setSdo_nextId (s : State) (l : Option (List Byte)) : (s.setSdo l).nextId = s.nextId := rfl
@[simp] theorem setSdo_free (s : State) (l : Option (List Byte)) : (s.setSdo l).free = s.free := rfl

/-! ### State.markSel changes `seq` alone -/

@[simp] theorem markSel_part (s : State) (t : Thread) (k : Option (Thread × BitVec 24)) : (s.markSel t k).part = s.part := rfl
@[simp] theorem markSel_rev (s : State) (t : Thread) (k : Option (Thread × BitVec 24)) : (s.markSel t k).rev = s.rev := rfl
@[simp] theorem markSel_res (s : State) (t : Thread) (k : Option (Thread × BitVec 24)) : (s.markSel t k).res = s.res := rfl
@[simp] theorem markSel_subs (s : State) (t : Thread) (k : Option (Thread × BitVec 24)) : (s.markSel t k).subs = s.subs := rfl
@[simp] theorem markSel_windows (s : State) (t : Thread) (k : Option (Thread × BitVec 24)) : (s.markSel t k).windows = s.windows := rfl
@[simp] theorem markSel_routes (s : State) (t : Thread) (k : Option (Thread × BitVec 24)) : (s.markSel t k).routes = s.routes := rfl
@[simp] theorem markSel_rules (s : State) (t : Thread) (k : Option (Thread × BitVec 24)) : (s.markSel t k).rules = s.rules := rfl
@[simp] theorem markSel_orders (s : State) (t : Thread) (k : Option (Thread × BitVec 24)) : (s.markSel t k).orders = s.orders := rfl
@[simp] theorem markSel_mxt (s : State) (t : Thread) (k : Option (Thread × BitVec 24)) : (s.markSel t k).mxt = s.mxt := rfl
@[simp] theorem markSel_lanes (s : State) (t : Thread) (k : Option (Thread × BitVec 24)) : (s.markSel t k).lanes = s.lanes := rfl
@[simp] theorem markSel_pb (s : State) (t : Thread) (k : Option (Thread × BitVec 24)) : (s.markSel t k).pb = s.pb := rfl
@[simp] theorem markSel_journal (s : State) (t : Thread) (k : Option (Thread × BitVec 24)) : (s.markSel t k).journal = s.journal := rfl
@[simp] theorem markSel_engines (s : State) (t : Thread) (k : Option (Thread × BitVec 24)) : (s.markSel t k).engines = s.engines := rfl
@[simp] theorem markSel_chans (s : State) (t : Thread) (k : Option (Thread × BitVec 24)) : (s.markSel t k).chans = s.chans := rfl
@[simp] theorem markSel_mirror (s : State) (t : Thread) (k : Option (Thread × BitVec 24)) : (s.markSel t k).mirror = s.mirror := rfl
@[simp] theorem markSel_field (s : State) (t : Thread) (k : Option (Thread × BitVec 24)) : (s.markSel t k).field = s.field := rfl
@[simp] theorem markSel_gauge (s : State) (t : Thread) (k : Option (Thread × BitVec 24)) : (s.markSel t k).gauge = s.gauge := rfl
@[simp] theorem markSel_group (s : State) (t : Thread) (k : Option (Thread × BitVec 24)) : (s.markSel t k).group = s.group := rfl
@[simp] theorem markSel_time (s : State) (t : Thread) (k : Option (Thread × BitVec 24)) : (s.markSel t k).time = s.time := rfl
@[simp] theorem markSel_sec (s : State) (t : Thread) (k : Option (Thread × BitVec 24)) : (s.markSel t k).sec = s.sec := rfl
@[simp] theorem markSel_power (s : State) (t : Thread) (k : Option (Thread × BitVec 24)) : (s.markSel t k).power = s.power := rfl
@[simp] theorem markSel_hcb (s : State) (t : Thread) (k : Option (Thread × BitVec 24)) : (s.markSel t k).hcb = s.hcb := rfl
@[simp] theorem markSel_loader (s : State) (t : Thread) (k : Option (Thread × BitVec 24)) : (s.markSel t k).loader = s.loader := rfl
@[simp] theorem markSel_pending (s : State) (t : Thread) (k : Option (Thread × BitVec 24)) : (s.markSel t k).pending = s.pending := rfl
@[simp] theorem markSel_nextId (s : State) (t : Thread) (k : Option (Thread × BitVec 24)) : (s.markSel t k).nextId = s.nextId := rfl
@[simp] theorem markSel_free (s : State) (t : Thread) (k : Option (Thread × BitVec 24)) : (s.markSel t k).free = s.free := rfl

/-! ### What an update of one component reads as -/

@[simp] theorem modMxt_self (s : State) (p : MxNo) (f : Mxt → Mxt) : (s.modMxt p f).mxt[p] = f s.mxt[p] := by
  simp [State.modMxt, vmod]

theorem modMxt_other (s : State) (p q : MxNo) (f : Mxt → Mxt) (h : q ≠ p) : (s.modMxt p f).mxt[q] = s.mxt[q] := by
  have h' : ¬ p.val = q.val := fun e => h (Fin.ext e.symm)
  simp only [State.modMxt, vmod, Fin.getElem_fin]
  rw [Vector.getElem_set_ne _ _ h']

@[simp] theorem modLn_self (s : State) (p : MxNo) (f : LanePort → LanePort) : (s.modLn p f).lanes[p] = f s.lanes[p] := by
  simp [State.modLn, vmod]

theorem modLn_other (s : State) (p q : MxNo) (f : LanePort → LanePort) (h : q ≠ p) : (s.modLn p f).lanes[q] = s.lanes[q] := by
  have h' : ¬ p.val = q.val := fun e => h (Fin.ext e.symm)
  simp only [State.modLn, vmod, Fin.getElem_fin]
  rw [Vector.getElem_set_ne _ _ h']

@[simp] theorem modPb_self (s : State) (n : PbNo) (f : Pb → Pb) : (s.modPb n f).pb[n] = f s.pb[n] := by
  simp [State.modPb, vmod]

theorem modPb_other (s : State) (n q : PbNo) (f : Pb → Pb) (h : q ≠ n) : (s.modPb n f).pb[q] = s.pb[q] := by
  have h' : ¬ n.val = q.val := fun e => h (Fin.ext e.symm)
  simp only [State.modPb, vmod, Fin.getElem_fin]
  rw [Vector.getElem_set_ne _ _ h']

@[simp] theorem modEng_self (s : State) (e : EngNo) (f : REng → REng) : (s.modEng e f).engines[e] = f s.engines[e] := by
  simp [State.modEng, vmod]

theorem modEng_other (s : State) (e q : EngNo) (f : REng → REng) (h : q ≠ e) : (s.modEng e f).engines[q] = s.engines[q] := by
  have h' : ¬ e.val = q.val := fun e => h (Fin.ext e.symm)
  simp only [State.modEng, vmod, Fin.getElem_fin]
  rw [Vector.getElem_set_ne _ _ h']

@[simp] theorem modChan_self (s : State) (g : ChanNo) (f : RChan → RChan) : (s.modChan g f).chans[g] = f s.chans[g] := by
  simp [State.modChan, vmod]

theorem modChan_other (s : State) (g q : ChanNo) (f : RChan → RChan) (h : q ≠ g) : (s.modChan g f).chans[q] = s.chans[q] := by
  have h' : ¬ g.val = q.val := fun e => h (Fin.ext e.symm)
  simp only [State.modChan, vmod, Fin.getElem_fin]
  rw [Vector.getElem_set_ne _ _ h']

@[simp] theorem modMirror_self (s : State) (g : ChanNo) (f : ChanMirror → ChanMirror) :
    (s.modMirror g f).mirror[g] = f s.mirror[g] := by
  simp [State.modMirror, vmod]

theorem modMirror_other (s : State) (g q : ChanNo) (f : ChanMirror → ChanMirror) (h : q ≠ g) :
    (s.modMirror g f).mirror[q] = s.mirror[q] := by
  have h' : ¬ g.val = q.val := fun e => h (Fin.ext e.symm)
  simp only [State.modMirror, vmod, Fin.getElem_fin]
  rw [Vector.getElem_set_ne _ _ h']

@[simp] theorem setSdo_setSdo (s : State) (l k : Option (List Byte)) : (s.setSdo l).setSdo k = s.setSdo k := rfl

@[simp] theorem markSel_thr (s : State) (t u : Thread) (k : Option (Thread × BitVec 24)) : (s.markSel t k).thr u = s.thr u := rfl

end Sys2Proof.Machine
end

