-- ==== Sys2Proof/Tests/Slice0.lean ====
section
/-! SUPPORT. Tests. First the well-formedness smoke: a command that each check refuses. Then, for every
statement with hypotheses, and for every clause of a statement of several clauses, a concrete state
and operands that meet the hypotheses together. Last, known answers. -/

namespace Sys2Proof.Tests

open Sys2Proof Sys2Proof.Machine

set_option Elab.async false

/-! ### Small states -/

/-- PHASE RUN, page 0 executable, thread 0 running at IA 0. -/
def up : State :=
  let s := { State.reset with hcb := { State.reset.hcb with phase := .run },
                              res := { State.reset.res with pages := [0] } }
  s.modThread 0 fun th => { th with run := .running }

/-- A state with an instruction in slot A of code word 0. -/
def withCode (s : State) (e : BitVec 36) : State := { s with res := s.res.putWord 0 (e ++ 0#36) }

/-- `up` with an instruction at IA 0. -/
def at0 (e : BitVec 36) : State := withCode up e

/-- A register of thread 0 given a data word of constant tag. -/
def setr (s : State) (r : Reg) (d : Data) : State := s.setReg 0 r (constWord d)

/-- A register of thread 0 that waits for producer 7. -/
def wait7 (s : State) (r : Reg) : State := s.awaitReg 0 r 7

/-- Thread 0 changed. -/
def t0 (s : State) (f : ThreadSt → ThreadSt) : State := s.modThread 0 f

/-- What is seen of the next state. -/
def seen {α : Type} (o : Host.Outcome State Fault Refusal) (f : State → α) : Option α :=
  match o with
  | .next n => some (f n)
  | _ => none

/-! ### Well-formedness: one refused command for each check -/

theorem test_wf_sxIs : (Instr.groupjoin 0 ⟨1, 2, 0, 0, 1⟩).wellFormed = false ∧
    (Instr.groupleave 0 ⟨0, 0, 0, 0, 0⟩).wellFormed = false ∧ (Instr.portEnable 0 ⟨0, 0, 0, 1, 0⟩).wellFormed = false ∧
    (Instr.portDisable 0 ⟨0, 0, 0, 1, 1⟩).wellFormed = false ∧ (Instr.expertOn 0 ⟨0, 0, 0, 1, 0⟩).wellFormed = false ∧
    (Instr.expertOff 0 ⟨0, 0, 0, 1, 1⟩).wellFormed = false := by decide +kernel

theorem test_wf_subIs : (Instr.laneprof 0 ⟨0, 0, 1, 0, 0⟩).wellFormed = false ∧
    (Instr.timeprof 0 ⟨0, 0, 9, 0, 0⟩).wellFormed = false := by decide +kernel

theorem test_wf_sxLow : (Instr.xctl 0 ⟨1, 0, 0, 0, 1⟩).wellFormed = false ∧
    (Instr.xget 0 ⟨1, 0, 0, 0, 0⟩).wellFormed = false := by decide +kernel

theorem test_wf_xctlOf : (Instr.retrain 0 ⟨1, 0, 0, 0, 0⟩).wellFormed = false ∧
    (Instr.retrain 0 ⟨1, 0, 0, 0, 0b0000000101000⟩).wellFormed = true ∧
    (Instr.lpclear 0 ⟨1, 0, 7, 0, 0b0000000010000⟩).wellFormed = false := by decide +kernel

theorem test_wf_stage_line : (Instr.stageTimeout 0 7).wellFormed = false ∧
    (Instr.drainWrite 0 (2 ^ 20)).wellFormed = false ∧ (Instr.protectionWindowEnd (2 ^ 20)).wellFormed = false := by
  decide +kernel

theorem test_wf_riffleIs : (Instr.give 0 0x2000000 0).wellFormed = false ∧ (Instr.giveStamp 0 0 0).wellFormed = false ∧
    (Instr.driveEn 0 0 0).wellFormed = false ∧ (Instr.sigLower 0 0 0).wellFormed = false := by decide +kernel

theorem test_wf_counts : (Instr.fomUpdate 0 1 0).wellFormed = false ∧
    (Instr.summaryScan 0 [[], [], [], [], []]).wellFormed = false := by decide +kernel

/-! ### Computation -/

def fR : FmtR := { wd := 3, wa := 1, wb := 2, imm9 := 0 }
def fI : FmtI := { wd := 4, wa := 1, imm := 8 }

theorem witness_AluRegisterResults : ∀ row ∈ aluRows,
    fR.imm9 = 0 ∧ (at0 (encR 0x02 row.2.1 fR)).runs 0 (encR 0x02 row.2.1 fR) [fR.wa, fR.wb] false = true := by
  decide +kernel

theorem witness_ImmediateAndMoveResults_imm : ∀ row ∈ immRows,
    (at0 (encI row.2.1 fI)).runs 0 (encI row.2.1 fI) [fI.wa] false = true := by decide +kernel

theorem witness_ImmediateAndMoveResults_shift : ∀ row ∈ shiftRows, (63 : BitVec 20).toNat < 64 ∧
    (at0 (encI row.2.1 { fI with imm := 63 })).runs 0 (encI row.2.1 { fI with imm := 63 }) [fI.wa] false = true := by
  decide +kernel

theorem witness_ImmediateAndMoveResults_mov : ∀ fn ∈ ([0x18, 0x19] : List (BitVec 6)),
    (at0 (encR 0x02 fn ⟨3, 1, 0, 0⟩)).runs 0 (encR 0x02 fn ⟨3, 1, 0, 0⟩) [1] false = true := by decide +kernel

theorem witness_ImmediateAndMoveResults_tagdown :
    (at0 (encR 0x02 0x1A fR)).runs 0 (encR 0x02 0x1A fR) [fR.wa, fR.wb] false = true := by decide +kernel

theorem witness_ImmediateAndMoveResults_k :
    (at0 (encM 0x0C ⟨3, 3, 0, 0xFFFF⟩)).runs 0 (encM 0x0C ⟨3, 3, 0, 0xFFFF⟩) [] false = true ∧
    (at0 (encM 0x0D ⟨3, 3, 0, 0xFFFF⟩)).runs 0 (encM 0x0D ⟨3, 3, 0, 0xFFFF⟩) [3] false = true := by decide +kernel

/-- ADD wraps (Table 3.4). -/
theorem test_add_wraps :
    seen (exec (.add 0 fR) (setr (setr (at0 (encR 0x02 0x00 fR)) 1 (BitVec.allOnes 64)) 2 2)) (fun n => n.reg 0 3) =
      some (constWord 1) := by decide +kernel

/-! ### Reservoir loads and stores -/

/-- W1 := the last 16 bytes but 16 of the Reservoir. -/
def atW1 (e : BitVec 36) (d : Data) : State := setr (at0 e) 1 d

theorem witness_LoadsIssue : ∀ row ∈ loadRows,
    (atW1 (encI row.2.1 fI) 0x3FFFFE8).runs 0 (encI row.2.1 fI) [fI.wa] false = true ∧
    (row.2.2 = .pair → fI.wd.val % 2 = 0) ∧
    (atW1 (encI row.2.1 fI) 0x3FFFFE8).okAccess row.2.2
      (effAddr ((atW1 (encI row.2.1 fI) 0x3FFFFE8).reg 0 fI.wa) fI.imm) = true := by decide +kernel
/-- A load of thread 0 on its way, W4 and W5 waiting for it. -/
def loading (k : LdKind) : State :=
  t0 up fun th =>
    { th with cq := [{ id := 7, ia := 3, enc := 0, ckpt := th.rf, what := .load { id := 7, kind := k, addr := 64 } }],
              rf := (th.rf.await 4 7).await 5 8 }

theorem witness_LoadReturns :
    (((loading .pair).thr 0).cq.map fun e => e.what) = [.load { id := 7, kind := .pair, addr := 64 }] ∧
    7 ≠ 0 ∧ (((loading .pair).thr 0).rf.ready 4 = false ∧ ((loading .pair).thr 0).rf.waits[(4 : Reg)] = 7) ∧
    (((loading .pair).thr 0).rf.ready 5 = false ∧ ((loading .pair).thr 0).rf.waits[(5 : Reg)] = 7 + 1) := by decide +kernel

theorem witness_LoadReturns_any :
    ((loading .pair).thr 0).loads[0]? = some { id := 7, kind := .pair, addr := 64 } ∧
    olderAccess (((loading .pair).thr 0).cq.take (((loading .pair).thr 0).loadPlace 7)) (64, LdKind.pair.size) = false := by
  decide +kernel

theorem witness_StoresEnterTheBuffer : ∀ row ∈ storeRows,
    (atW1 (encI row.2.1 fI) 0x3FFFFE8).runs 0 (encI row.2.1 fI) (storeSrcs row.2.2 fI) true = true ∧
    (row.2.2 = .pair → fI.wd.val % 2 = 0) ∧
    (atW1 (encI row.2.1 fI) 0x3FFFFE8).okAccess row.2.2
      (effAddr ((atW1 (encI row.2.1 fI) 0x3FFFFE8).reg 0 fI.wa) fI.imm) = true ∧
    (effAddr ((atW1 (encI row.2.1 fI) 0x3FFFFE8).reg 0 fI.wa) fI.imm).toNat = 0x3FFFFF0 ∧
    (atW1 (encI row.2.1 fI) 0x3FFFFE8).unitPending 0 0x3FFFFF0 row.2.2.size = false ∧
    (atW1 (encI row.2.1 fI) 0x3FFFFE8).canStore 0 (lineOf 0x3FFFFF0) = true := by decide +kernel

/-- SCW of W2 at 4096, the reservation held on its granule. -/
def scw : State := t0 (setr (atW1 (encR 0x1B 0x00 fR) 4096) 2 5) fun th => { th with resv := some 64 }

theorem witness_StoreConditional :
    (dataOf (scw.reg 0 fR.wa)).toNat = 4096 ∧ fR.imm9 = 0 ∧ scw.runs 0 (encR 0x1B 0x00 fR) [fR.wa, fR.wb] true = true ∧
    scw.okAccess .word (dataOf (scw.reg 0 fR.wa)) = true ∧ scw.overlaps 0 (64 * (4096 / 64)) 64 = false ∧
    scw.unitPending 0 4096 8 = false ∧ ((scw.fetchCorrect 0).thr 0).resv = some (4096 / 64) ∧
    scw.protHolds 0 (4096 / 64) = false := by decide +kernel

theorem witness_StoreConditional_fails :
    (atW1 (encR 0x1B 0x00 fR) 4096).runs 0 (encR 0x1B 0x00 fR) [fR.wa, fR.wb] true = true ∧
    (atW1 (encR 0x1B 0x00 fR) 4096).okAccess .word (dataOf ((atW1 (encR 0x1B 0x00 fR) 4096).reg 0 fR.wa)) = true ∧
    (atW1 (encR 0x1B 0x00 fR) 4096).overlaps 0 (64 * (4096 / 64)) 64 = false ∧
    (atW1 (encR 0x1B 0x00 fR) 4096).unitPending 0 4096 8 = false ∧
    ¬ ((((atW1 (encR 0x1B 0x00 fR) 4096).fetchCorrect 0).thr 0).resv = some (4096 / 64)) := by decide +kernel

/-- SCW with its reservation stores, and without it gives 0 (R127). -/
theorem test_scw : seen (exec (.scw 0 fR) scw) (fun n => (n.reg 0 3, n.res.word 512)) = some (constWord 1, constWord 5) ∧
    seen (exec (.scw 0 fR) (atW1 (encR 0x1B 0x00 fR) 4096)) (fun n => (n.reg 0 3, n.res.word 512)) =
      some (constWord 0, 0) := by decide +kernel

/-- Whether an access at an address runs and has nothing older before it, and what its address is. -/
def accessAt (e : BitVec 36) (srcs : List Reg) (c : Bool) (d : Data) (ea : Data) : Bool :=
  (atW1 e d).runs 0 e srcs c && (atW1 e d).allCommitted 0 && effAddr ((atW1 e d).reg 0 1) 8 == ea

theorem witness_AccessExceptions_loads : ∀ row ∈ loadRows,
    accessAt (encI row.2.1 fI) [fI.wa] false 1 9 = true ∧ (row.2.2 = .pair → fI.wd.val % 2 = 0) ∧
    (row.2.2 ≠ .byte → (9 : Data).toNat % row.2.2.size ≠ 0) ∧
    accessAt (encI row.2.1 fI) [fI.wa] false 0x3FFFFF8 0x4000000 = true ∧
    (0x4000000 : Data).toNat % row.2.2.size = 0 ∧ 2 ^ 26 ≤ (0x4000000 : Data).toNat ∧
    accessAt (encI row.2.1 fI) [fI.wa] false 8 16 = true ∧ (16 : Data).toNat % row.2.2.size = 0 ∧
    (16 : Data).toNat < 2 ^ 26 ∧ (atW1 (encI row.2.1 fI) 8).touchesExec 16 row.2.2.size = true := by decide +kernel

theorem witness_AccessExceptions_stores : ∀ row ∈ storeRows,
    accessAt (encI row.2.1 fI) (storeSrcs row.2.2 fI) true 1 9 = true ∧ (row.2.2 = .pair → fI.wd.val % 2 = 0) ∧
    (row.2.2 ≠ .byte → (9 : Data).toNat % row.2.2.size ≠ 0) ∧
    accessAt (encI row.2.1 fI) (storeSrcs row.2.2 fI) true 0x3FFFFF8 0x4000000 = true ∧
    accessAt (encI row.2.1 fI) (storeSrcs row.2.2 fI) true 8 16 = true ∧
    (atW1 (encI row.2.1 fI) 8).touchesExec 16 row.2.2.size = true := by decide +kernel

theorem witness_IllegalForms_alu : ∀ row ∈ aluRows,
    (encR 0x02 row.2.1 { fR with imm9 := 1 }) = (encR 0x02 row.2.1 { fR with imm9 := 1 }) ∧ (1 : BitVec 9) ≠ 0 ∧
    (at0 (encR 0x02 row.2.1 { fR with imm9 := 1 })).runs 0 (encR 0x02 row.2.1 { fR with imm9 := 1 }) [1, 2] false = true ∧
    (at0 (encR 0x02 row.2.1 { fR with imm9 := 1 })).allCommitted 0 = true := by decide +kernel

theorem witness_IllegalForms_pair : ({ fI with wd := 5 } : FmtI).wd.val % 2 = 1 ∧
    (at0 (encI 0x18 { fI with wd := 5 })).runs 0 (encI 0x18 { fI with wd := 5 }) [fI.wa] false = true ∧
    (at0 (encI 0x18 { fI with wd := 5 })).allCommitted 0 = true ∧
    (at0 (encI 0x19 { fI with wd := 5 })).runs 0 (encI 0x19 { fI with wd := 5 }) (storeSrcs .pair { fI with wd := 5 }) true =
      true := by decide +kernel

def r0 : FmtR := ⟨0, 0, 0, 0⟩

theorem witness_IllegalForms_eret :
    (at0 (encR 0x01 0x04 r0)).runs 0 (encR 0x01 0x04 r0) [] true = true ∧ ((at0 (encR 0x01 0x04 r0)).thr 0).hmode = false := by
  decide +kernel

/-- A code word with an uncorrectable error, one on a data page, and the all-zero instruction. -/
def badFetch : State := { at0 0 with res := { (at0 0).res with errs := [(0, .multi)] } }

theorem witness_IllegalForms_fetch : (Instr.nop 0 r0).issuer = some 0 ∧
    (∀ s ∈ ([badFetch, t0 up fun th => { th with ia := 1024 }, at0 0] : List State), s.selectable 0 = true ∧
      s.selected 0 = true ∧ s.allCommitted 0 = true) ∧
    badFetch.res.isBad ((badFetch.iaOf 0).toNat / 2) = true ∧
    (t0 up fun th => { th with ia := 1024 }).res.isBad (1024 / 2) = false ∧
    (t0 up fun th => { th with ia := 1024 }).fetchable 1024 = false ∧ (at0 0).res.isBad 0 = false ∧
    (at0 0).fetchable 0 = true ∧ useOf ((at0 0).res.insn 0) = none := by decide +kernel

/-! ### Branches and jumps -/

def fB (c : BrCond) : FmtB := ⟨1, if c.single then 0 else 2, 5⟩

theorem witness_ReadyBranches : ∀ row ∈ branchRows,
    (at0 (encB row.2.1.opcode (fB row.2.1))).runs 0 (encB row.2.1.opcode (fB row.2.1)) [] false = true ∧
    (row.2.1.single = true → (fB row.2.1).wb = 0) ∧
    ((at0 (encB row.2.1.opcode (fB row.2.1))).thr 0).rf.ready (fB row.2.1).wa = true ∧
    ((at0 (encB row.2.1.opcode (fB row.2.1))).thr 0).rf.ready (fB row.2.1).wb = true := by decide +kernel

theorem witness_PredictedBranches : ∀ row ∈ branchRows,
    (wait7 (at0 (encB row.2.1.opcode (fB row.2.1))) 1).runs 0 (encB row.2.1.opcode (fB row.2.1)) [] false = true ∧
    ((wait7 (at0 (encB row.2.1.opcode (fB row.2.1))) 1).thr 0).rf.ready (fB row.2.1).wa = false ∧
    (row.2.1.single = true → (fB row.2.1).wb = 0) := by decide +kernel

/-- An unresolved BEQ of equal words, predicted as said. -/
def unresolved (p : Bool) : Branch :=
  { id := 3, cond := .eq, a := ⟨0, constWord 1⟩, b := ⟨0, constWord 1⟩, pred := p, other := 9 }

/-- Thread 0 with that branch at the head of its queue. -/
def branching (p : Bool) : State :=
  t0 up fun th => { th with cq := [{ id := 3, ia := 0, enc := 0, ckpt := th.rf, what := .branch (unresolved p) }] }

theorem witness_BranchResolution : ∀ p : Bool,
    (((branching p).thr 0).cq.head?.map fun e => e.what) = some (.branch (unresolved p)) ∧
    (unresolved p).a.id = 0 ∧ (unresolved p).b.id = 0 ∧
    ((unresolved p).cond.taken (unresolved p).a.val (unresolved p).b.val = (unresolved p).pred ↔ p = true) := by
  decide +kernel

theorem witness_BranchResolution_proceed : up.clocked = true ∧ up.queuesEmpty = true ∧
    ∀ t : Thread, (up.thr t).stopping = false ∧ (up.thr t).wait = .none := by decide +kernel

theorem witness_Jumps :
    (at0 (encJ 0x28 ⟨3, 0⟩)).runs 0 (encJ 0x28 ⟨3, 0⟩) [] false = true ∧
    (atW1 (encI 0x29 fI) 0xFFFFF7).runs 0 (encI 0x29 fI) [fI.wa] false = true ∧
    tagPoison (tagOf ((atW1 (encI 0x29 fI) 0xFFFFF7).reg 0 fI.wa)) = false ∧
    tagValid (tagOf ((atW1 (encI 0x29 fI) 0xFFFFF7).reg 0 fI.wa)) = true ∧
    (dataOf ((atW1 (encI 0x29 fI) 0xFFFFF7).reg 0 fI.wa) + BitVec.ofInt 64 fI.imm.toInt).toNat < 2 ^ 24 := by decide +kernel

theorem witness_Jumps_target :
    (atW1 (encI 0x29 fI) 0xFFFFF8).runs 0 (encI 0x29 fI) [fI.wa] false = true ∧
    (atW1 (encI 0x29 fI) 0xFFFFF8).allCommitted 0 = true ∧
    2 ^ 24 ≤ (dataOf ((atW1 (encI 0x29 fI) 0xFFFFF8).reg 0 fI.wa) + BitVec.ofInt 64 fI.imm.toInt).toNat ∧
    (at0 (encI 0x29 fI)).runs 0 (encI 0x29 fI) [fI.wa] false = true ∧
    tagValid (tagOf ((at0 (encI 0x29 fI)).reg 0 fI.wa)) = false := by decide +kernel

/-! ### System instructions -/

theorem witness_ThreadControl : ∀ x ∈ ([(0x01, false), (0x02, true), (0x03, false)] : List (BitVec 6 × Bool)),
    (at0 (encR 0x01 x.1 r0)).runs 0 (encR 0x01 x.1 r0) [] x.2 = true := by decide +kernel

theorem witness_ThreadControl_eret :
    (t0 (at0 (encR 0x01 0x04 r0)) fun th => { th with hmode := true }).runs 0 (encR 0x01 0x04 r0) [] true = true ∧
    ((t0 (at0 (encR 0x01 0x04 r0)) fun th => { th with hmode := true }).thr 0).hmode = true := by decide +kernel

theorem witness_ThreadControl_xrd : ∀ i : Fin 7, (BitVec.ofNat 9 i.val).toNat < 7 ∧
    (at0 (encR 0x01 0x09 ⟨3, 0, 0, BitVec.ofNat 9 i.val⟩)).runs 0 (encR 0x01 0x09 ⟨3, 0, 0, BitVec.ofNat 9 i.val⟩) [] false =
      true := by decide +kernel

theorem witness_ThreadControl_xwr : ∀ i : Fin 5, (BitVec.ofNat 9 i.val).toNat < 5 ∧
    (at0 (encR 0x01 0x0A ⟨0, 1, 0, BitVec.ofNat 9 i.val⟩)).runs 0 (encR 0x01 0x0A ⟨0, 1, 0, BitVec.ofNat 9 i.val⟩) [1] true =
      true := by decide +kernel

theorem witness_ThreadControl_time :
    (at0 (encR 0x01 0x0B ⟨3, 0, 0, 0⟩)).runs 0 (encR 0x01 0x0B ⟨3, 0, 0, 0⟩) [] false = true := by decide +kernel

theorem witness_Trap :
    (at0 (encR 0x01 0x05 ⟨0, 0, 0, 511⟩)).runs 0 (encR 0x01 0x05 ⟨0, 0, 0, 511⟩) [] true = true := by decide +kernel

/-- A trap without HANDLER stops the thread with its cause and raises HOSTPEND[3] (R62, R409). -/
theorem test_trap_stops :
    seen (exec (.trap 0 ⟨0, 0, 0, 511⟩) (at0 (encR 0x01 0x05 ⟨0, 0, 0, 511⟩)))
      (fun n => ((n.thr 0).run, (n.thr 0).xcause, (n.thr 0).xia, n.hcb.stopped)) = some (.stoppedExc, 0x0D, 1, 1) := by
  decide +kernel

theorem witness_StartAndStopThreads_tstart : ∀ k : Fin 8, (BitVec.ofNat 9 k.val).toNat < 8 ∧
    (at0 (encR 0x01 0x07 ⟨0, 1, 0, BitVec.ofNat 9 k.val⟩)).runs 0 (encR 0x01 0x07 ⟨0, 1, 0, BitVec.ofNat 9 k.val⟩) [1] true =
      true ∧
    (k ≠ 0 → ((at0 (encR 0x01 0x07 ⟨0, 1, 0, BitVec.ofNat 9 k.val⟩)).thr
      (immThread ⟨0, 1, 0, BitVec.ofNat 9 k.val⟩)).run ≠ .running) := by decide +kernel

theorem witness_StartAndStopThreads_tstop : ∀ k : Fin 8, (BitVec.ofNat 9 k.val).toNat < 8 ∧
    (at0 (encR 0x01 0x08 ⟨0, 0, 0, BitVec.ofNat 9 k.val⟩)).runs 0 (encR 0x01 0x08 ⟨0, 0, 0, BitVec.ofNat 9 k.val⟩) [] true =
      true ∧
    (immThread ⟨0, 0, 0, BitVec.ofNat 9 k.val⟩ = 0 ↔ k = 0) := by decide +kernel

/-- TSTOP of thread 7, which runs. -/
def stop7 : State := (at0 (encR 0x01 0x08 ⟨0, 0, 0, 7⟩)).modThread 7 fun th => { th with run := .running }

theorem witness_StartAndStopThreads_running :
    stop7.runs 0 (encR 0x01 0x08 ⟨0, 0, 0, 7⟩) [] true = true ∧ immThread ⟨0, 0, 0, 7⟩ ≠ 0 ∧
    (stop7.thr (immThread ⟨0, 0, 0, 7⟩)).run = .running ∧ (stop7.thr (immThread ⟨0, 0, 0, 7⟩)).stopping = false ∧
    (stop7.thr (immThread ⟨0, 0, 0, 7⟩)).wait.toComplete = .none ∧ stop7.allCommitted (immThread ⟨0, 0, 0, 7⟩) = true ∧
    (stop7.seq.ops.any fun o => o.live (immThread ⟨0, 0, 0, 7⟩)) = false ∧
    (stop7.seq.ext.any fun x => x.thread = immThread ⟨0, 0, 0, 7⟩ && !x.performed) = false := by decide +kernel

theorem witness_Mailboxes_mbrd :
    (at0 (encR 0x01 0x0C ⟨3, 0, 0, 0⟩)).runs 0 (encR 0x01 0x0C ⟨3, 0, 0, 0⟩) [] true = true ∧
    (at0 (encR 0x01 0x0C ⟨3, 0, 0, 0⟩)).hcb.mbIn = [] := by decide +kernel

/-- `at0` with the mailboxes at the given contents. -/
def mail (e : BitVec 36) (i : List Data) (o : List Word) : State :=
  { at0 e with hcb := { (at0 e).hcb with mbIn := i, mbOut := o } }

theorem witness_Mailboxes_word :
    (mail (encR 0x01 0x0C ⟨3, 0, 0, 0⟩) [9] []).runs 0 (encR 0x01 0x0C ⟨3, 0, 0, 0⟩) [] true = true ∧
    (mail (encR 0x01 0x0C ⟨3, 0, 0, 0⟩) [9] []).hcb.mbIn = 9 :: [] := by decide +kernel

theorem witness_Mailboxes_mbwr :
    (mail (encR 0x01 0x0D ⟨0, 1, 0, 0⟩) [] (List.replicate 15 0)).runs 0 (encR 0x01 0x0D ⟨0, 1, 0, 0⟩) [1] true = true ∧
    (mail (encR 0x01 0x0D ⟨0, 1, 0, 0⟩) [] (List.replicate 15 0)).hcb.mbOut.length < 16 ∧
    (mail (encR 0x01 0x0D ⟨0, 1, 0, 0⟩) [] (List.replicate 16 0)).runs 0 (encR 0x01 0x0D ⟨0, 1, 0, 0⟩) [1] true = true ∧
    16 ≤ (mail (encR 0x01 0x0D ⟨0, 1, 0, 0⟩) [] (List.replicate 16 0)).hcb.mbOut.length := by decide +kernel

/-- WAITEV for the mask 0, for event 0 (a word in the inbound mailbox) with one there, and without. -/
def waitev (m : Data) (i : List Data) : State := setr (mail (encR 0x01 0x06 ⟨3, 1, 0, 0⟩) i []) 1 m

theorem witness_Events : ∀ x ∈ ([(0, []), (1, [5]), (1, [])] : List (Data × List Data)),
    (waitev x.1 x.2).runs 0 (encR 0x01 0x06 ⟨3, 1, 0, 0⟩) [1] true = true := by decide +kernel

theorem witness_Events_cases :
    ((dataOf ((waitev 0 []).reg 0 1)).setWidth 13 = (0 : BitVec 13)) ∧
    (((waitev 1 [5]).levels 0 ||| (waitev 1 [5]).seq.sticky) &&& (1 : BitVec 13)) ≠ 0 ∧
    (((waitev 1 []).levels 0 ||| (waitev 1 []).seq.sticky) &&& (1 : BitVec 13)) = 0 := by decide +kernel

/-- A thread waiting for event 12, its TIMERCMP passed. -/
def timer : State := t0 up fun th => { th with wait := .waitev 3 0x1000, timercmp := 0 }

theorem witness_Events_timer : (timer.thr 0).wait = .waitev 3 0x1000 ∧ timer.clocked = true ∧
    ((timer.levels 0 ||| timer.seq.sticky) &&& 0x1000) ≠ 0 := by decide +kernel

theorem witness_Barriers : ∀ fn ∈ ([0x10, 0x11, 0x12, 0x13, 0x14, 0x15] : List (BitVec 6)),
    (at0 (encR 0x01 fn r0)).runs 0 (encR 0x01 fn r0) [] true = true ∧
    ((at0 (encR 0x01 fn r0)).unflushed 0).all (fun q => ((at0 (encR 0x01 fn r0)).freeTag q.port).isSome) = true := by
  decide +kernel

theorem witness_Barriers_otok : (255 : BitVec 9).toNat < 256 ∧ (255 : BitVec 9) ≠ 0 ∧
    (at0 (encR 0x01 0x16 ⟨0, 0, 0, 255⟩)).runs 0 (encR 0x01 0x16 ⟨0, 0, 0, 255⟩) [] true = true := by decide +kernel

/-- Thread 0 in a barrier behind its own buffered store, and in an OTOK behind an external access of the domain. -/
def fencing : State :=
  { t0 up fun th => { th with wait := .fence ⟨false, true, false⟩ } with
    seq := { (t0 up fun th => { th with wait := .fence ⟨false, true, false⟩ }).seq with
      conf := [{ thread := 0, line := 64, words := Vector.replicate 8 ⟨0, 0, false, 0⟩, isOpen := false, draining := true }] } }

def otoking : State :=
  { t0 up fun th => { th with wait := .otok 3 } with
    seq := { (t0 up fun th => { th with wait := .otok 3 }).seq with
      ext := [{ id := 5, thread := 0, route := 0, kind := .stx, posted := false, addr := 0, len := 8, rdst := 0, odom := 3,
                parts := [], ready := false, performed := false, completed := false }] } }

theorem witness_BarriersHold :
    (Instr.nop 0 r0).issuer = some 0 ∧ (fencing.thr 0).wait = .fence ⟨false, true, false⟩ ∧
    fencing.fenceDone 0 ⟨false, true, false⟩ = false ∧ (otoking.thr 0).wait = .otok 3 ∧ otoking.otokDone 0 3 = false ∧
    ((t0 up fun th => { th with wait := .waitev 3 1 }).thr 0).wait = .waitev 3 1 ∧
    ((t0 up fun th => { th with wait := .mbwr 5 }).thr 0).wait = .mbwr 5 := by decide +kernel

/-! ### External accesses and coprocessors -/

def extOps : List (BitVec 6 × ExtKind) := [(0x1C, .ldx), (0x1D, .stx), (0x1E, .xrdb), (0x1F, .xwrb)]

def fX (r : BitVec 2) (p : Bool) : FmtX := ⟨2, 1, 3, r, p, 0, 0, 0⟩

/-- W1 := 0xF8, an address whose access ends at a 256-byte boundary, and W2 := 4096. -/
def extAt (e : BitVec 36) : State := setr (setr (at0 e) 1 0xF8) 2 4096

theorem witness_ExternalAccesses : ∀ row ∈ extOps, ∀ r ∈ ([0, 1, 2] : List (BitVec 2)),
    ∀ p ∈ (if row.2 = .stx ∨ row.2 = .xwrb then [false, true] else [false]),
    (extAt (encX row.1 (fX r p))).runs 0 (encX row.1 (fX r p)) (if row.2 = .ldx then [1] else [1, 2]) true = true ∧
    FmtX.illegal row.2 (fX r p) = false ∧
    (extAt (encX row.1 (fX r p))).extFault row.2 (fX r p) (dataOf ((extAt (encX row.1 (fX r p))).reg 0 1))
      (BitVec.ofNat 64 (if row.2 = .xrdb ∨ row.2 = .xwrb then 4096 else 0)) = none ∧
    (dataOf ((extAt (encX row.1 (fX r p))).reg 0 2)).toNat = 4096 ∧
    (extAt (encX row.1 (fX r p))).overlaps 0 4096 (FmtX.bytes row.2 (fX r p)) = false ∧
    (extAt (encX row.1 (fX r p))).unitPending 0 4096 (FmtX.bytes row.2 (fX r p)) = false ∧
    (extAt (encX row.1 (fX r p))).extRoom 0 (fX r p) = true ∧ 0 < (extAt (encX row.1 (fX r p))).nextId := by decide +kernel

def fC : FmtC := ⟨3, 1, 2, 0⟩

theorem witness_ChecksumsStart : ∀ row ∈ sumRows, ∀ k ∈ ([8, 2] : List (BitVec 8)),
    1 ≤ k.toNat ∧ k.toNat ≤ 8 ∧ (row.2.2.1 = true → k.toNat % 2 = 0) ∧
    (at0 (encC 0x31 row.2.1 { fC with imm8 := k })).runs 0 (encC 0x31 row.2.1 { fC with imm8 := k }) [1, 2] false = true ∧
    (at0 (encC 0x31 row.2.1 { fC with imm8 := k })).unitFree .cp1 = true := by decide +kernel

/-- W1 := 4096, W2 := the length. -/
def blockAt (e : BitVec 36) (n : Data) : State := setr (setr (at0 e) 1 4096) 2 n

theorem witness_HashAndVerifyStart_hash : ∀ n ∈ ([0, 1, 65536] : List Nat),
    (blockAt (encC 0x32 0x01 fC) (BitVec.ofNat 64 n)).runs 0 (encC 0x32 0x01 fC) [1, 2] false = true ∧
    (dataOf ((blockAt (encC 0x32 0x01 fC) (BitVec.ofNat 64 n)).reg 0 1)).toNat = 4096 ∧
    (dataOf ((blockAt (encC 0x32 0x01 fC) (BitVec.ofNat 64 n)).reg 0 2)).toNat = (BitVec.ofNat 64 n).toNat ∧ fC.imm8 = 0 ∧ fC.wd.val ≤ 26 ∧
    (blockAt (encC 0x32 0x01 fC) (BitVec.ofNat 64 n)).unitFree .hash = true ∧
    (blockAt (encC 0x32 0x01 fC) (BitVec.ofNat 64 n)).readWaits 0 4096 (BitVec.ofNat 64 n).toNat = false ∧
    (BitVec.ofNat 64 n).toNat ≤ 65536 ∧ 4096 + (BitVec.ofNat 64 n).toNat ≤ 2 ^ 26 ∧ (blockAt (encC 0x32 0x01 fC) (BitVec.ofNat 64 n)).touchesExec 4096 (BitVec.ofNat 64 n).toNat = false ∧
    (blockAt (encC 0x32 0x01 fC) (BitVec.ofNat 64 n)).overlaps 0 4096 (BitVec.ofNat 64 n).toNat = false := by decide +kernel

def fC1 : FmtC := ⟨3, 1, 0, 0⟩

theorem witness_HashAndVerifyStart_verify :
    (blockAt (encC 0x32 0x02 fC1) 0).runs 0 (encC 0x32 0x02 fC1) [1] false = true ∧
    (blockAt (encC 0x32 0x02 fC1) 0).unitFree .ec = true ∧ (blockAt (encC 0x32 0x02 fC1) 0).readWaits 0 4096 240 = false ∧
    4096 % 8 = 0 ∧ 4096 + 240 ≤ 2 ^ 26 ∧
    (blockAt (encC 0x32 0x02 fC1) 0).touchesExec 4096 240 = false ∧
    (blockAt (encC 0x32 0x02 fC1) 0).overlaps 0 4096 240 = false := by decide +kernel

/-- An operation of thread 0 in the checksum unit, W3 waiting for it. -/
def opOf (sh : Bool) : CpOp :=
  { id := 7, thread := 0, unit := .cp1, effect := false, shadow := sh, results := [constWord 9], writes := [], reads := [],
    latency := 4 }

def withOp (o : CpOp) : State :=
  let s := wait7 up 3
  { s with seq := { s.seq with ops := [o] } }

theorem witness_OperationsComplete :
    ((withOp (opOf false)).seq.ops.find? fun o => o.unit = .cp1 && !o.shadow &&
      !((withOp (opOf false)).seq.jwaits.any fun w => w.id = o.id)) = some (opOf false) ∧
    (opOf false).results = [constWord 9] ∧ (opOf false).writes = [] ∧ (opOf false).id ≠ 0 ∧
    ((withOp (opOf false)).thr (opOf false).thread).wait = .none ∧ ((withOp (opOf false)).thr 0).rf.ready 3 = false ∧
    ((withOp (opOf false)).thr 0).rf.waits[(3 : Reg)] = (opOf false).id := by decide +kernel

theorem witness_CoprocessorFaults_hash : ∀ n ∈ ([65537, 8] : List Nat),
    (setr (blockAt (encC 0x32 0x01 fC) (BitVec.ofNat 64 n)) 1 0x3FFFFFC).runs 0 (encC 0x32 0x01 fC) [1, 2] false = true ∧
    (setr (blockAt (encC 0x32 0x01 fC) (BitVec.ofNat 64 n)) 1 0x3FFFFFC).unitFree .hash = true ∧
    (setr (blockAt (encC 0x32 0x01 fC) (BitVec.ofNat 64 n)) 1 0x3FFFFFC).allCommitted 0 = true ∧ fC.wd.val ≤ 26 ∧
    (setr (blockAt (encC 0x32 0x01 fC) 8) 1 0x3FFFFFC).rangeFault 0x3FFFFFC 8 false = some 2 := by decide +kernel

theorem witness_CoprocessorFaults_blocks :
    ∀ x ∈ ([(0x02, 240, false, CpUnit.ec), (0x10, 64, true, CpUnit.aes), (0x11, 64, true, CpUnit.aes), (0x12, 152, true, CpUnit.ec)] :
      List (BitVec 7 × Nat × Bool × CpUnit)),
    (setr (at0 (encC 0x32 x.1 fC1)) 1 4).runs 0 (encC 0x32 x.1 fC1) [1] x.2.2.1 = true ∧
    (setr (at0 (encC 0x32 x.1 fC1)) 1 4).unitFree x.2.2.2 = true ∧
    (setr (at0 (encC 0x32 x.1 fC1)) 1 4).rangeFault 4 x.2.1 true = some 4 := by decide +kernel

theorem witness_ShadowOperationsEnd :
    ((withOp (opOf true)).seq.ops.find? fun o => o.unit = .cp1 && o.shadow) = some (opOf true) := by decide +kernel

/-- Engine 1 running or not. -/
def eng (s : State) (r : Bool) : State := s.modEng 1 fun e => { e with running := r }

theorem witness_RiffleControl_start :
    (eng (setr (at0 (encC 0x30 0x01 ⟨0, 1, 0, 0⟩)) 1 1) false).runs 0 (encC 0x30 0x01 ⟨0, 1, 0, 0⟩) [1] true = true ∧
    engineOf ((eng (setr (at0 (encC 0x30 0x01 ⟨0, 1, 0, 0⟩)) 1 1) false).reg 0 1) = 1 ∧
    (eng (setr (at0 (encC 0x30 0x01 ⟨0, 1, 0, 0⟩)) 1 1) false).unitFree .cp0 = true ∧
    (eng (setr (at0 (encC 0x30 0x01 ⟨0, 1, 0, 0⟩)) 1 1) false).engines[(1 : EngNo)].running = false := by decide +kernel

theorem witness_RiffleControl_stop :
    (eng (setr (at0 (encC 0x30 0x02 ⟨0, 1, 0, 0⟩)) 1 1) true).runs 0 (encC 0x30 0x02 ⟨0, 1, 0, 0⟩) [1] true = true ∧
    engineOf ((eng (setr (at0 (encC 0x30 0x02 ⟨0, 1, 0, 0⟩)) 1 1) true).reg 0 1) = 1 ∧
    (eng (setr (at0 (encC 0x30 0x02 ⟨0, 1, 0, 0⟩)) 1 1) true).unitFree .cp0 = true ∧
    (eng (setr (at0 (encC 0x30 0x02 ⟨0, 1, 0, 0⟩)) 1 1) true).engines[(1 : EngNo)].running = true ∧
    (∀ g : ChanNo, engOf g = 1 →
      (eng (setr (at0 (encC 0x30 0x02 ⟨0, 1, 0, 0⟩)) 1 1) true).chans[g].change = [] ∧
      (eng (setr (at0 (encC 0x30 0x02 ⟨0, 1, 0, 0⟩)) 1 1) true).chans[g].cfg.stopHold = false) := by decide +kernel

/-- W1 := 17, a channel of engine 1, and W2 := 5. -/
def cp0 (cf : BitVec 7) (f : FmtC) : State := setr (setr (at0 (encC 0x30 cf f)) 1 17) 2 5

theorem witness_RiffleControl_push :
    (cp0 0x03 fC).runs 0 (encC 0x30 0x03 fC) [1, 2] true = true ∧ (cp0 0x03 fC).unitFree .cp0 = true ∧
    isGood ((cp0 0x03 fC).reg 0 2) = true ∧ (cp0 0x03 fC).pinAdmits ((cp0 0x03 fC).reg 0 2) = true ∧
    (cp0 0x03 fC).txLevel (channelOf ((cp0 0x03 fC).reg 0 1)) <
      (cp0 0x03 fC).chans[channelOf ((cp0 0x03 fC).reg 0 1)].txDepth := by decide +kernel

theorem witness_RiffleControl_pop : ∀ l ∈ ([[], [constWord 6]] : List (List Word)),
    ((cp0 0x04 fC1).modMirror 17 fun c => { c with rx := l }).runs 0 (encC 0x30 0x04 fC1) [1] true = true ∧
    ((cp0 0x04 fC1).modMirror 17 fun c => { c with rx := l }).unitFree .cp0 = true ∧
    ((cp0 0x04 fC1).modMirror 17 fun c => { c with rx := l }).rxMirror 17 = l ∧
    channelOf ((cp0 0x04 fC1).reg 0 1) = 17 := by decide +kernel

theorem witness_RiffleControl_stat_clr : ∀ d ∈ ([17, 0x41] : List Nat),
    (setr (cp0 0x05 fC1) 1 (BitVec.ofNat 64 d)).runs 0 (encC 0x30 0x05 fC1) [1] true = true ∧
    (setr (cp0 0x05 fC1) 1 (BitVec.ofNat 64 d)).unitFree .cp0 = true ∧
    (dataOf ((setr (cp0 0x05 fC1) 1 (BitVec.ofNat 64 d)).reg 0 1)).getLsbD 6 = ((BitVec.ofNat 64 d) == 0x41) ∧
    (setr (cp0 0x06 ⟨0, 1, 2, 0⟩) 1 (BitVec.ofNat 64 d)).runs 0 (encC 0x30 0x06 ⟨0, 1, 2, 0⟩) [1, 2] true = true ∧
    (setr (cp0 0x06 ⟨0, 1, 2, 0⟩) 1 (BitVec.ofNat 64 d)).unitFree .cp0 = true ∧
    (dataOf ((setr (cp0 0x06 ⟨0, 1, 2, 0⟩) 1 (BitVec.ofNat 64 d)).reg 0 1)).getLsbD 6 = ((BitVec.ofNat 64 d) == 0x41) := by decide +kernel

/-! ### The journal's instructions -/

/-- A field of a subsystem given a value. -/
def setf (s : State) (u : Sub) (i k : Nat) (v : Data) : State := s.modSub u i fun x => { x with fields := aset k v x.fields }

/-- The journal on at 4 MiB, with the given entries. -/
def jrnl (s : State) (l : List JEntry) : State :=
  let s := setf (setf s .oxbow 0 0 4) .oxbow 0 1 1
  { s with journal := { s.journal with entries := l } }

/-- A journal entry of port 1. -/
def jent (j : Nat) (x : JState) (m : Bool) : JEntry :=
  { jsn := j, port := 1, mirrored := m, who := .src 5, hasWseq := true, wseq := 9, addr := 0x100, len := 8, window := 0,
    pstart := 0, trec := 0, words := [constWord 3], state := x, jout := 0, answers := [], recAck := 0, outAck := 0,
    lines := [0] }

/-- W1 := the form and port 1, W2 := JSN 1, one entry as given. -/
def cp3 (cf : BitVec 7) (d : Data) (l : List JEntry) : State := jrnl (setr (setr (at0 (encC 0x33 cf fC)) 1 d) 2 1) l

theorem witness_JournalInstructions_jstat : ∀ d ∈ ([1, 5, 9] : List Nat),
    (cp3 0x01 (BitVec.ofNat 64 d) [jent 1 .recorded false]).runs 0 (encC 0x33 0x01 fC) [1, 2] true = true ∧
    (cp3 0x01 (BitVec.ofNat 64 d) [jent 1 .recorded false]).unitFree .cp3 = true ∧
    portOf ((cp3 0x01 (BitVec.ofNat 64 d) [jent 1 .recorded false]).reg 0 1) = 1 ∧
    (cp3 0x01 (BitVec.ofNat 64 d) [jent 1 .recorded false]).cp3Void 1 = false ∧
    (dataOf ((cp3 0x01 (BitVec.ofNat 64 d) [jent 1 .recorded false]).reg 0 1)).extractLsb' 2 2 = ((BitVec.ofNat 64 d) >>> 2).setWidth 2 ∧
    (cp3 0x01 (BitVec.ofNat 64 d) [jent 1 .recorded false]).entry 1 ((dataOf ((cp3 0x01 (BitVec.ofNat 64 d) [jent 1 .recorded false]).reg 0 2)).toNat % 2 ^ 48) =
      some (jent 1 .recorded false) := by decide +kernel

theorem witness_JournalInstructions_attention :
    ({ cp3 0x01 5 [] with journal := { (cp3 0x01 5 []).journal with attention := [⟨1, 5, 1⟩] } } : State).runs 0
      (encC 0x33 0x01 fC) [1, 2] true = true := by decide +kernel

theorem witness_JournalInstructions_jsync :
    (cp3 0x02 1 [{ jent 1 .final false with outAck := 0 }]).runs 0 (encC 0x33 0x02 fC) [1, 2] true = true ∧
    (cp3 0x02 1 [jent 1 .final false]).unitFree .cp3 = true ∧ (cp3 0x02 1 [jent 1 .final false]).cp3Void 1 = false ∧
    (∀ e ∈ (cp3 0x02 1 [jent 1 .final false]).journal.entries, e.port = 1 →
      (cp3 0x02 1 [jent 1 .final false]).holdsSync 1 e.jsn = false) := by decide +kernel

theorem witness_JournalInstructions_jdrain : ∀ d ∈ ([1, 5] : List Nat),
    (cp3 0x03 (BitVec.ofNat 64 d) []).runs 0 (encC 0x33 0x03 fC) [1, 2] true = true ∧ (cp3 0x03 (BitVec.ofNat 64 d) []).unitFree .cp3 = true ∧
    portOf ((cp3 0x03 (BitVec.ofNat 64 d) []).reg 0 1) = 1 ∧ (cp3 0x03 (BitVec.ofNat 64 d) []).cp3Void 1 = false ∧
    (dataOf ((cp3 0x03 (BitVec.ofNat 64 d) []).reg 0 1)).getLsbD 2 = ((BitVec.ofNat 64 d) == 5) := by decide +kernel

theorem witness_JournalInstructions_jpoison :
    (cp3 0x04 1 [jent 1 .recorded false]).runs 0 (encC 0x33 0x04 fC) [1, 2] true = true ∧
    (cp3 0x04 1 [jent 1 .recorded false]).unitFree .cp3 = true ∧
    (cp3 0x04 1 [jent 1 .recorded false]).cp3Void 1 = false ∧
    (cp3 0x04 1 [jent 1 .recorded false]).entry 1
      ((dataOf ((cp3 0x04 1 [jent 1 .recorded false]).reg 0 2)).toNat % 2 ^ 48) = some (jent 1 .recorded false) ∧
    (jent 1 .recorded false).state = .recorded ∧ (jent 1 .recorded false).mirrored = false := by decide +kernel

/-- A JSYNC that waits. -/
def jop : CpOp :=
  { id := 7, thread := 0, unit := .cp3, effect := true, shadow := false, results := [constWord 0], writes := [], reads := [],
    latency := 4 }

def jwaiting : State :=
  let s := jrnl (wait7 up 3) [jent 1 .recorded false]
  { s with seq := { s.seq with ops := [jop], jwaits := [{ id := 7, thread := 0, port := 1, jsns := [1] }] } }

theorem witness_JournalWaitsEnd :
    (jwaiting.seq.jwaits.find? fun w => w.thread = 0) = some { id := 7, thread := 0, port := 1, jsns := [1] } ∧
    (jwaiting.seq.ops.find? fun o => o.id = 7) = some jop ∧ jop.thread = 0 ∧ 7 ≠ 0 ∧ jop.writes = [] ∧
    (jwaiting.thr 0).wait = .none ∧ (jwaiting.thr 0).rf.ready 3 = false ∧ (jwaiting.thr 0).rf.waits[(3 : Reg)] = 7 := by
  decide +kernel

/-- JOURNAL_WAIT_LIMIT gives the number of entries not yet final (R278). -/
theorem test_journal_wait_limit : seen (exec (.journalWaitLimit 0) jwaiting) (fun n => n.reg 0 3) = some (constWord 1) := by
  decide +kernel

/-! ### Keyed instructions -/

/-- Words stored from a word number on. -/
def store (s : State) (w : Nat) : List Data → State
  | [] => s
  | d :: r => store { s with res := s.res.putWord w (constWord d) } (w + 1) r

/-- W1 := 4096 with a descriptor there, and a key in slot 0. -/
def keyed (cf : BitVec 7) (desc : List Data) : State :=
  let s := setr (at0 (encC 0x32 cf fC1)) 1 4096
  let s := { s with sec := { s.sec with slots := s.sec.slots.set 0 (some { key := 1, salt := 0, uses := 0 }) } }
  store s 512 desc

/-- Slot 0, 16 bytes from 8192 to 12288, 8 bytes of further data at 16384. -/
def gcmWords : List Data := [16 <<< 32, 8192 ||| (12288 <<< 32), 16384 ||| (8 <<< 32), 0, 0, 0, 0, 0]

theorem witness_KeyedInstructions_gcmseal :
    (keyed 0x10 gcmWords).runs 0 (encC 0x32 0x10 fC1) [1] true = true ∧ (keyed 0x10 gcmWords).unitFree .aes = true ∧
    (dataOf ((keyed 0x10 gcmWords).reg 0 1)).toNat = 4096 ∧ (keyed 0x10 gcmWords).rangeFault 4096 64 true = none ∧
    (keyed 0x10 gcmWords).overlaps 0 4096 64 = false ∧
    (keyed 0x10 gcmWords).gcmProblems ((keyed 0x10 gcmWords).gcmDesc 4096) true = [] ∧
    (keyed 0x10 gcmWords).unitPending 0 4096 64 = false ∧
    (keyed 0x10 gcmWords).unitPending 0 ((keyed 0x10 gcmWords).gcmDesc 4096).dst
      ((keyed 0x10 gcmWords).gcmDesc 4096).len = false ∧
    (((keyed 0x10 gcmWords).gcmDesc 4096).ranges true).all (fun r => !(keyed 0x10 gcmWords).overlaps 0 r.1 r.2) = true ∧
    (keyed 0x10 gcmWords).sec.slots[((keyed 0x10 gcmWords).gcmDesc 4096).slot] = some { key := 1, salt := 0, uses := 0 } := by
  decide +kernel

theorem witness_KeyedInstructions_gcmopen :
    (keyed 0x11 gcmWords).runs 0 (encC 0x32 0x11 fC1) [1] true = true ∧ (keyed 0x11 gcmWords).unitFree .aes = true ∧
    (keyed 0x11 gcmWords).rangeFault 4096 64 true = none ∧ (keyed 0x11 gcmWords).overlaps 0 4096 64 = false ∧
    (keyed 0x11 gcmWords).gcmProblems ((keyed 0x11 gcmWords).gcmDesc 4096) false = [] ∧
    (keyed 0x11 gcmWords).unitPending 0 ((keyed 0x11 gcmWords).gcmDesc 4096).dst
      ((keyed 0x11 gcmWords).gcmDesc 4096).len = false ∧
    (((keyed 0x11 gcmWords).gcmDesc 4096).ranges false).all (fun r => !(keyed 0x11 gcmWords).overlaps 0 r.1 r.2) = true ∧
    (keyed 0x11 gcmWords).sec.slots[((keyed 0x11 gcmWords).gcmDesc 4096).slot] = some { key := 1, salt := 0, uses := 0 } ∧
    ((keyed 0x11 gcmWords).gcmDesc 4096).dest ≠ 1 := by decide +kernel

/-- IDSIGN's descriptor of 19 words. -/
def idWords (k : Data) : List Data := k :: List.replicate 18 7

theorem witness_KeyedInstructions_idsign : ∀ k ∈ ([0, 1] : List Nat),
    (keyed 0x12 (idWords (BitVec.ofNat 64 k))).runs 0 (encC 0x32 0x12 fC1) [1] true = true ∧ (keyed 0x12 (idWords (BitVec.ofNat 64 k))).unitFree .ec = true ∧
    (dataOf ((keyed 0x12 (idWords (BitVec.ofNat 64 k))).reg 0 1)).toNat = 4096 ∧ (keyed 0x12 (idWords (BitVec.ofNat 64 k))).rangeFault 4096 152 true = none ∧
    (keyed 0x12 (idWords (BitVec.ofNat 64 k))).overlaps 0 4096 152 = false ∧ (keyed 0x12 (idWords (BitVec.ofNat 64 k))).identityUsable = true ∧
    (keyed 0x12 (idWords (BitVec.ofNat 64 k))).descBits 4096 0 5 59 = 0 ∧ (keyed 0x12 (idWords (BitVec.ofNat 64 k))).descBits 4096 0 0 2 = (BitVec.ofNat 64 k).toNat ∧
    (keyed 0x12 (idWords (BitVec.ofNat 64 k))).unitPending 0 4096 152 = false ∧
    (descWords 4096 19).all (fun w => isGood ((keyed 0x12 (idWords (BitVec.ofNat 64 k))).res.deliver w)) = true := by decide +kernel

theorem witness_KeyedInstructions_random : ∀ k ∈ ([0, 8, 16] : List Nat),
    (setr (keyed 0x13 []) 1 (BitVec.ofNat 64 k)).runs 0 (encC 0x32 0x13 fC1) [1] true = true ∧
    (setr (keyed 0x13 []) 1 (BitVec.ofNat 64 k)).unitFree .rng = true ∧
    (dataOf ((setr (keyed 0x13 []) 1 (BitVec.ofNat 64 k)).reg 0 1)).extractLsb' 3 2 = ((BitVec.ofNat 64 k) >>> 3).setWidth 2 := by decide +kernel

/-! ### Riffle engines -/

/-- Channel 17 of engine 1 in its turn with a store word, its configuration and work changed by `f`. -/
def turn (w : BitVec 32) (f : RChan → RChan) : State :=
  let s := up.modEng 1 fun e => { e with running := true, store := e.store.set 0 w }
  s.modChan 17 fun c => f { c with cfg := { c.cfg with enable := true } }

theorem witness_RiffleTurns : ∀ w ∈ ([0x10000000, 0x20000000, 0x22080000, 0x30000005, 0x40000009, 0x50000040, 0x60000040,
      0x70000000, 0x80000000, 0x82000000, 0x90000000, 0xA0000000, 0xA8000000, 0xB0000007, 0xB4000007, 0xC00000FF, 0, 0xD0000000,
      0xFFFFFFFF] : List Nat),
    (turn (BitVec.ofNat 32 w) id).clocked = true ∧ (turn (BitVec.ofNat 32 w) id).hasTurn 17 (BitVec.ofNat 32 w) = true := by decide +kernel

theorem witness_RiffleTurns_fields :
    (0#28).extractLsb' 7 13 = 0#13 ∧ ((0#28).getLsbD 20 && (0#28).extractLsb' 21 7 == 0) = false ∧
    (0#28).extractLsb' 0 19 = 0#19 ∧ (0x10#7 ++ 1#2 ++ 0#19).getLsbD 19 = true ∧
    (0x10#7 ++ 1#2 ++ 0#19).getLsbD 20 = false ∧ (0x10#7 ++ 1#2 ++ 0#19).extractLsb' 21 7 = 0x10#7 ∧
    (5#28).extractLsb' 7 20 = 0#20 ∧ (9#28).extractLsb' 16 11 = 0#11 ∧ (64#28).extractLsb' 7 20 = 0#20 ∧
    (64#28).extractLsb' 7 21 = 0#21 ∧ ((64#28).setWidth 7).toNat = 64 ∧ (1#3 ++ 0#25).extractLsb' 25 2 = 1#2 ∧
    (1#3 ++ 0#25).extractLsb' 0 25 = 0#25 ∧ (0#28).extractLsb' 25 3 ≠ 7#3 ∧ (0#28).extractLsb' 20 2 ≠ 3#2 ∧
    (1#1 ++ 0#27).getLsbD 27 = true ∧ (1#1 ++ 0#27).extractLsb' 16 11 = 0#11 ∧ (7#28).extractLsb' 3 25 = 0#25 ∧
    (1#2 ++ 7#26).extractLsb' 3 23 = 0#23 ∧ (1#2 ++ 7#26).extractLsb' 26 2 = 1#2 ∧ (255#28).extractLsb' 8 20 = 0#20 := by
  decide +kernel

theorem witness_RiffleTurns_cond : ∀ w ∈ ([0x10000000, 0x20000000] : List Nat),
    (turn (BitVec.ofNat 32 w) id).cond ((turn (BitVec.ofNat 32 w) id).chans[(17 : ChanNo)]) ((turn (BitVec.ofNat 32 w) id).engines[engOf 17]) ((turn (BitVec.ofNat 32 w) id).ballsRead 0) 0 =
      some true := by decide +kernel

theorem witness_RiffleTurns_queues :
    (turn (0x7#4 ++ 0#28) fun c => { c with txq := [5] }).hasTurn 17 (0x7#4 ++ 0#28) = true ∧
    (turn (0x7#4 ++ 0#28) fun c => { c with txq := [5] }).chans[(17 : ChanNo)].txq = 5 :: [] ∧
    (turn (0x7#4 ++ 0#28) id).chans[(17 : ChanNo)].txq = [] ∧
    (turn (0x8#4 ++ 0#28) id).chans[(17 : ChanNo)].rxq.length < (turn (0x8#4 ++ 0#28) id).chans[(17 : ChanNo)].rxDepth ∧
    (turn (0x8#4 ++ 0#28) fun c => { c with rxq := [1, 2, 3, 4] }).hasTurn 17 (0x8#4 ++ 0#28) = true ∧
    (turn (0x8#4 ++ 0#28) fun c => { c with rxq := [1, 2, 3, 4] }).chans[(17 : ChanNo)].rxDepth ≤ 4 ∧
    (turn (0xC#4 ++ 0#28) id).chans[(17 : ChanNo)].turns.getD 0 = 0 ∧
    (turn (0xC#4 ++ 255#28) id).chans[(17 : ChanNo)].turns.getD 255 = 254 + 1 := by decide +kernel

theorem witness_RiffleFaults : ∀ w ∈ ([0, 0xD0000000, 0xFFFFFFFF] : List Nat),
    (turn (BitVec.ofNat 32 w) id).clocked = true ∧ (turn (BitVec.ofNat 32 w) id).hasTurn 17 (BitVec.ofNat 32 w) = true ∧
    ((BitVec.ofNat 32 w).extractLsb' 28 4 = 0 ∨ 13 ≤ ((BitVec.ofNat 32 w).extractLsb' 28 4).toNat) ∧
    (turn (BitVec.ofNat 32 w) id).chans[(17 : ChanNo)].cfg.stopHold = false := by decide +kernel

/-- EMIT of 4 frame bits (Table 11.3) advances TP and PC. -/
theorem test_emit : seen (exec (.emit 17 4 0) (turn (0x5#4 ++ 4#28) fun c => { c with tp := 0 })) (fun n =>
    ((n.chans[(17 : ChanNo)]).tp, (n.chans[(17 : ChanNo)]).pc)) = some (4, 1) := by decide +kernel

/-- Engine 1 running on its clock, with the queue operations given. -/
def rqueued (l : List QueueOp) : State := up.modEng 1 fun e => { e with running := true, ops := l }

theorem witness_RiffleQueuesAndChanges_push : ∀ o ∈ ([.push 17 5, .pop 17] : List QueueOp),
    (rqueued [o]).clocked = true ∧ (rqueued [o]).engines[(1 : EngNo)].running = true ∧
    (rqueued [o]).engines[(1 : EngNo)].ops = o :: [] ∧
    (rqueued [o]).chans[(17 : ChanNo)].txq.length < (rqueued [o]).chans[(17 : ChanNo)].txDepth := by decide +kernel

/-- Channel 17 with a configuration waiting. -/
def changing (b : Bool) : State := (rqueued []).modChan 17 fun c => { c with change := [{ RCfg.initial with enable := b }] }

theorem witness_RiffleQueuesAndChanges_change : ∀ b : Bool, (changing b).clocked = true ∧ (changing b).slotDue 17 = true ∧
    (changing b).chans[(17 : ChanNo)].change.getLast? = some { RCfg.initial with enable := b } := by decide +kernel

/-! ### Field pins -/

/-- Channel 17 drives FP0 and LP0 low, both groups on, FP0 in a protection state. -/
def pins (p : FpProt) (tOffs : Nat) : State :=
  let s := up.modChan 17 fun c => { c with ens := 0x10001 }
  let pin : FpPin := { prot := p, short := false, backoff := 1, turnOffs := tOffs, readback := some 17 }
  { s with field := { s.field with fpOn := true, lpOn := true, fp := s.field.fp.set 0 pin } }

/-- The same with LP0 flagged. -/
def flagged : State :=
  let s := pins .normal 0
  { s with field := { s.field with lp := s.field.lp.set 0 { off := false, contending := true } } }

theorem witness_FieldPins : (pins .normal 0).fpPulls 0 = true ∧ (pins .normal 0).field.fp[(0 : Fin 16)].prot = .normal ∧
    (pins .limit 0).field.fp[(0 : Fin 16)].prot = .limit ∧ (pins .limit 0).winner 0 = some 17 ∧
    (pins .limit 6).field.fp[(0 : Fin 16)].turnOffs + 1 = 7 ∧ (pins .off 0).field.fp[(0 : Fin 16)].prot = .off ∧
    (pins .normal 0).field.fp[(0 : Fin 16)].prot ≠ .limit ∧ ((pins .normal 0).lpDrives 0).isSome = true := by decide +kernel

theorem witness_FieldPins_readback :
    (pins .normal 0).field.fp[(0 : Fin 16)].readback = some 17 ∧ (pins .normal 0).field.fpOn = true ∧
    (pins .normal 0).chans[(17 : ChanNo)].cfg.rbCheck = false ∧ (pins .normal 0).fpLow 0 = true ∧
    ((pins .normal 0).modChan 17 fun c => { c with cfg := { c.cfg with rbCheck := true } }).chans[(17 : ChanNo)].cfg.rbCheck =
      true := by decide +kernel

theorem witness_FieldPins_lp : (flagged.lpDrives 0).isSome = true ∧ flagged.field.lp[(0 : Fin 16)].contending = true := by
  decide +kernel

/-! ### Set-up instructions -/

def fS : FmtS := ⟨1, 2, 0, 0, 0⟩

/-- A set-up instruction with W1 and W2. -/
def setup2 (op : BitVec 6) (f : FmtS) (a b : Data) : State := setr (setr (at0 (encS op f)) 1 a) 2 b

def runsSetup (op : BitVec 6) (f : FmtS) (l : List Reg) (a b : Data) : Bool :=
  (setup2 op f a b).runs 0 (encS op f) l true && l.all fun r => !(setup2 op f a b).badOperand 0 r

/-- Window 3, 2^8 Parene words at 0x100, narrow, inbound, at MXL address 0x10000. -/
def winB : Data := 0x100 ||| (3 <<< 24) ||| (8 <<< 32) ||| (1 <<< 52)

theorem witness_WindowsAndRoutes_win : operandsOnly fS = true ∧ runsSetup 0x3B fS [1, 2] 0x10000 winB = true ∧
    bitsAt winB 52 2 ≠ 0 ∧ (setup2 0x3B fS 0x10000 winB).winAbsent winB = none ∧
    (setup2 0x3B fS 0x10000 winB).winFault fS 0x10000 winB = none ∧
    runsSetup 0x3B fS [1, 2] 0x10000 (3 <<< 24) = true ∧ bitsAt (3 <<< 24) 52 2 = 0 := by decide +kernel

/-- Port 1, level 5, DIR 1, ENABLE. -/
def routeA (e : Bool) : Data := 5 ||| (1 <<< 3) ||| (1 <<< 5) ||| (if e then 1 <<< 15 else 0)

theorem witness_WindowsAndRoutes_route : ∀ e : Bool, runsSetup 0x3C fS [1, 2] (routeA e) 0x2000 = true ∧
    (setup2 0x3C fS (routeA e) 0x2000).routeAbsent (routeA e) = none ∧
    (setup2 0x3C fS (routeA e) 0x2000).routeFault fS (routeA e) 0x2000 = none ∧ (routeA e).getLsbD 15 = e ∧
    16 * bitsAt (routeA e) 3 2 + 2 * bitsAt (routeA e) 0 3 + 1 = 27 := by decide +kernel

/-- A route of port 1 and level 5 to be removed. -/
def routed : State :=
  { setup2 0x3C fS (routeA false) 0x2000 with routes := [(27, { mxport := 0, vector := 0, isLocal := false, addr := 0x2000 })] }

theorem witness_WindowsAndRoutes_remove : routed.runs 0 (encS 0x3C fS) [1, 2] true = true ∧
    routed.badOperand 0 1 = false ∧ routed.badOperand 0 2 = false ∧ routed.routeFault fS (routeA false) 0x2000 = none ∧
    (aget (16 * bitsAt (routeA false) 3 2 + 2 * bitsAt (routeA false) 0 3 + 1) routed.routes).isSome = true := by
  decide +kernel

/-- Port 2, class 3; RATE 1, DEPTH 2, HINTCAP 7. -/
def admitB : Data := 1 ||| (2 <<< 16) ||| (7 <<< 24)

theorem witness_ClassesAndSourceRules_admit :
    runsSetup 0x3D fS [1, 2] 14 admitB = true ∧ bitsAt (14 : Data) 0 2 = 2 ∧ bitsAt (14 : Data) 2 3 = 3 ∧
    (setup2 0x3D fS 14 admitB).admitAbsent 14 = none ∧ bitsAt admitB 0 24 ≠ 0 ∧ admitFault fS 14 admitB = none ∧
    runsSetup 0x3D fS [1, 2] 14 0 = true ∧ bitsAt (0 : Data) 0 24 = 0 := by decide +kernel

theorem witness_ClassesAndSourceRules_levrule :
    runsSetup 0x3E fS [1, 2] 0x67 0x00200010 = true ∧ (0x67 : Data).getLsbD 5 = true ∧ bitsAt (0x67 : Data) 6 2 ≠ 0 ∧
    bitsAt (0x00200010 : Data) 0 16 ≤ bitsAt (0x00200010 : Data) 16 16 ∧
    (setup2 0x3E fS 0x67 0x00200010).levruleAbsent 0x67 = none ∧
    runsSetup 0x3E fS [1, 2] 7 0 = true ∧ (setup2 0x3E fS 7 0).levruleAbsent 7 = none ∧ (7 : Data).getLsbD 5 = false := by
  decide +kernel

/-- Engine 1, START 126, COUNT 2, from 4096, where two words stand. -/
def rifA : Data := 1 ||| (126 <<< 2) ||| (2 <<< 9)

def rifloading : State := store (setup2 0x34 fS rifA 4096) 512 [1, 2]

theorem witness_RiffleSetup_rifload : rifloading.runs 0 (encS 0x34 fS) [1, 2] true = true ∧
    rifloading.badOperand 0 1 = false ∧ rifloading.badOperand 0 2 = false ∧ bitsAt rifA 0 2 = 1 ∧
    rifloadRange fS rifA 4096 = none ∧ rifloading.overlaps 0 4096 (8 * bitsAt rifA 9 8) = false ∧
    (∀ i, i < bitsAt rifA 9 8 → badStoreWord (rifloading.res.deliver (4096 / 8 + i)) = false) ∧
    rifloading.engines[(1 : EngNo)].running = false := by decide +kernel

/-- ENABLE, ENTRY 5, one EPIN. -/
def rchB : Data := 5 ||| (1 <<< 7) ||| (1 <<< 13)

theorem witness_RiffleSetup_rifchan : runsSetup 0x35 fS [1, 2] 17 rchB = true ∧ bitsAt (17 : Data) 0 6 = 17 ∧
    (setup2 0x35 fS 17 rchB).rifchanFault fS 17 (rcfgOf rchB) = none ∧
    (setup2 0x35 fS 17 rchB).engines[engOf 17].running = false ∧
    (eng (setup2 0x35 fS 17 rchB) true).runs 0 (encS 0x35 fS) [1, 2] true = true ∧
    (eng (setup2 0x35 fS 17 rchB) true).engines[engOf 17].running = true ∧
    (eng (setup2 0x35 fS 17 rchB) true).rifchanFault fS 17 (rcfgOf rchB) = none ∧
    (eng (setup2 0x35 fS 17 rchB) true).chans[(17 : ChanNo)].latest.enable = false ∧
    runsSetup 0x35 fS [1, 2] 17 5 = true ∧ (5 : Data).getLsbD 7 = false ∧ (5 : Data).getLsbD 48 = false := by decide +kernel

/-- Index 1 of three members; group 7. -/
def joinB : Data := 0x4000 ||| (7 <<< 48)

theorem witness_MembershipAndPorts_join : runsSetup 0x36 fS [1, 2] 9 joinB = true ∧
    (setup2 0x36 fS 9 joinB).joinFault fS 9 joinB = none := by decide +kernel

/-- A joined member 0 of three, all members in the installed view 7. -/
def member (s : State) : State :=
  { s with group := { s.group with joined := true, n1 := 2, gaddr := 0x4000, gid := 7, view := 7, epoch := 5, admitted := true } }

theorem witness_MembershipAndPorts_leave :
    ((member (at0 (encS 0x36 ⟨0, 0, 0, 0, 1⟩))).modPb 1 fun b => { b with enabled := true, recorded := true }).runs 0
      (encS 0x36 ⟨0, 0, 0, 0, 1⟩) [] true = true ∧
    (member (at0 (encS 0x36 ⟨0, 0, 0, 0, 1⟩))).group.joined = true := by decide +kernel

theorem witness_MembershipAndPorts_port : ∀ i : Fin 6, ∀ x : Fin 2,
    (at0 (encS 0x37 ⟨0, 0, 0, BitVec.ofNat 3 i.val, BitVec.ofNat 13 x.val⟩)).runs 0
      (encS 0x37 ⟨0, 0, 0, BitVec.ofNat 3 i.val, BitVec.ofNat 13 x.val⟩) [] true = true ∧
    up.hasPb i.val = true ∧ up.group.joined = false ∧ ∀ g : PbNo, up.pb[g].enabled = false := by decide +kernel

theorem witness_MembershipAndPorts_off :
    ((at0 (encS 0x37 ⟨0, 0, 0, 3, 0⟩)).modPb 3 fun b => { b with enabled := true, recorded := true, phase := .normal }).runs 0
      (encS 0x37 ⟨0, 0, 0, 3, 0⟩) [] true = true ∧
    ({ pins .limit 3 with res := (at0 (encS 0x37 ⟨0, 0, 0, 4, 0⟩)).res } : State).runs 0 (encS 0x37 ⟨0, 0, 0, 4, 0⟩) [] true = true ∧
    (pins .limit 3).field.fpOn = true ∧ (pins .limit 3).field.lpOn = true := by decide +kernel

/-- A profile instruction for INST 7 of a subsystem with a code. -/
def fProf (u : Sub) (c : Nat) : FmtS := ⟨0, 0, BitVec.ofNat 4 u.code, 7, BitVec.ofNat 13 c⟩

theorem witness_ProfilesAndExpertMode : ∀ row ∈ profileRows,
    (at0 (encS 0x38 (fProf row.2 1))).runs 0 (encS 0x38 (fProf row.2 1)) [] true = true ∧
    (profileFields row.2 1).isSome = true ∧ (up.instances row.2 7).isSome = true ∧ up.subAbsent row.2 7 = none := by
  decide +kernel

theorem witness_ProfilesAndExpertMode_may : ∀ row ∈ profileRows, ∀ i ∈ (up.instances row.2 7).getD [],
    up.mayChange row.2 (up.sub row.2 i).fields ((profileFields row.2 1).getD []) none = true := by decide +kernel

theorem witness_ProfilesAndExpertMode_expert : ∀ row ∈ profileRows, ∀ x : Fin 2,
    (at0 (encS 0x39 (fProf row.2 x.val))).runs 0 (encS 0x39 (fProf row.2 x.val)) [] true = true ∧
    Sub.ofCode (fProf row.2 x.val).sub.toNat = some row.2 ∧
    ∀ i ∈ (up.instances row.2 7).getD [], up.mayLock row.2 i = true := by decide +kernel

/-- An instance unlocked. -/
def unlock (s : State) (u : Sub) (i : Nat) : State := s.modSub u i fun x => { x with unlocked := true }

/-- XCTL or XGET of page and field, with W1. -/
def xctl (u : Sub) (i : Nat) (page field low : Nat) (v : Data) : State × FmtS :=
  let f : FmtS := ⟨1, 0, BitVec.ofNat 4 u.code, BitVec.ofNat 3 i, BitVec.ofNat 13 (512 * page + 8 * field + low)⟩
  (unlock (setr (at0 (encS 0x3A f)) 1 v) u i, f)

def runsXctl (x : State × FmtS) : Bool := x.1.runs 0 (encS 0x3A x.2) [1] true && !x.1.badOperand 0 1

/-- XCTL of RTYMAX of port 3. -/
def xRty : State × FmtS := xctl .parene 3 0 5 0 255

theorem witness_FieldAccess_xctl : runsXctl xRty = true ∧ Sub.ofCode xRty.2.sub.toNat = some .parene ∧
    xRty.2.sx.extractLsb' 0 3 = 0 ∧ xRty.2.inst.toNat < Sub.count .parene ∧ xRty.1.present .parene xRty.2.inst.toNat = true ∧
    (xRty.1.sub .parene xRty.2.inst.toNat).unlocked = true ∧ sxPage xRty.2 ≠ 15 ∧ key (sxPage xRty.2) (sxField xRty.2) = 5 ∧
    aget 5 (fieldLimits .parene) = some (.range 1 255) ∧ (Limit.range 1 255).admits 255 = true ∧
    jointOk .parene (aset 5 255 (xRty.1.sub .parene xRty.2.inst.toNat).fields) = true ∧
    xRty.1.mayChange .parene (xRty.1.sub .parene xRty.2.inst.toNat).fields
      (aset 5 255 (xRty.1.sub .parene xRty.2.inst.toNat).fields) (some 5) = true := by decide +kernel

/-- XCTL of RETRAIN and SCANGO of port 0, in link up. -/
def xLane (page field : Nat) : State × FmtS :=
  let x := xctl .lane 0 page field 0 1
  (x.1.modLn 0 fun q => { q with stage := 7 }, x.2)

theorem witness_FieldAccess_retrain : runsXctl (xLane 0 5) = true ∧ (xLane 0 5).2.sx = 0b0000000101000 ∧
    (xLane 0 5).1.laneLive 0 = true ∧ (xLane 0 5).1.lanes[(0 : MxNo)].stage = 7 ∧
    dataOf ((xLane 0 5).1.reg 0 1) = 1 := by decide +kernel

/-- SCANGO with a scan of one lane at 4096. -/
def xScan : State :=
  setf (setf (setf (xLane 4 11).1 .lane 0 (key 4 10) 4096) .lane 0 (key 4 1) 1) .lane 0 (key 4 2) 1

theorem witness_FieldAccess_scango : xScan.runs 0 (encS 0x3A (xLane 4 11).2) [1] true = true ∧
    (xLane 4 11).2.sx = 0b0100001011000 ∧ xScan.badOperand 0 1 = false ∧ (xScan.sub .lane 0).unlocked = true ∧
    xScan.scanMay 0 (xScan.scanOf 0) = true := by decide +kernel

theorem witness_FieldAccess_clear : runsXctl (xctl .field 0 0 2 0 0xFFFF) = true ∧
    (xctl .field 0 0 2 0 0xFFFF).2.sx = 0b0000000010000 ∧ runsXctl (xctl .field 0 0 3 0 0xFFFF) = true ∧
    (xctl .field 0 0 3 0 0xFFFF).2.sx = 0b0000000011000 ∧ (0xFFFF : Data).toNat < 2 ^ 16 := by decide +kernel

theorem witness_FieldAccess_xget : ∀ x ∈ ([(.parene, 0, 5), (.lane, 0, 5), (.mxt, 15, 2)] : List (Sub × Nat × Nat)),
    (at0 (encS 0x3A (xctl x.1 0 x.2.1 x.2.2 1 0).2)).runs 0 (encS 0x3A (xctl x.1 0 x.2.1 x.2.2 1 0).2) [] true = true ∧
    (xctl x.1 0 x.2.1 x.2.2 1 0).2.sx.extractLsb' 0 3 = 1 ∧ up.present x.1 0 = true ∧
    (if x.2.1 = 15 then (up.status x.1 0 x.2.2).isSome else (aget (key x.2.1 x.2.2) (fieldLimits x.1)).isSome) = true := by
  decide +kernel

theorem witness_FieldAccess_action : aget (key 0 5) (fieldLimits .lane) = some (.action 1) := by decide +kernel

/-- Operands for each instruction of `setupRows`: of a port or unit that a GX7202 does not have. -/
def absents : List (Data × Data) :=
  [(0, winB ||| (2 <<< 37)), (5 ||| (2 <<< 3), 0), (2, 0), (0xA0, 0)]

theorem witness_SetupExceptions_absent : ∀ x ∈ setupRows.zip absents,
    (({ setup2 x.1.2.1 fS x.2.1 x.2.2 with part := .gx7202 } : State).runs 0 (encS x.1.2.1 fS) [1, 2] true = true ∧
    (x.1.2.2 { setup2 x.1.2.1 fS x.2.1 x.2.2 with part := .gx7202 } x.2.1 x.2.2).isSome = true) := by decide +kernel

theorem witness_SetupExceptions_operand : ∀ row ∈ setupRows,
    (at0 (encS row.2.1 fS)).runs 0 (encS row.2.1 fS) [1, 2] true = true ∧
    row.2.2 (at0 (encS row.2.1 fS)) 0 0 = none ∧ (at0 (encS row.2.1 fS)).badOperand 0 1 = true ∧
    (setr (at0 (encS row.2.1 fS)) 1 0).runs 0 (encS row.2.1 fS) [1, 2] true = true ∧
    row.2.2 (setr (at0 (encS row.2.1 fS)) 1 0) 0 0 = none ∧
    (setr (at0 (encS row.2.1 fS)) 1 0).badOperand 0 1 = false ∧ (setr (at0 (encS row.2.1 fS)) 1 0).badOperand 0 2 = true := by
  decide +kernel

theorem witness_SetupExceptions_win : runsSetup 0x3B fS [1, 2] 0x10001 winB = true ∧
    (setup2 0x3B fS 0x10001 winB).winAbsent winB = none ∧
    (setup2 0x3B fS 0x10001 winB).winFault fS 0x10001 winB = some (1, 0) := by decide +kernel

theorem witness_SetupExceptions_win_row :
    FirstAtFault ((setup2 0x3B fS 0x10001 winB).winRows fS 0x10001 winB) 1 0 :=
  ⟨[], _, _, rfl, ⟨by decide +kernel, by decide +kernel, .inl (by decide +kernel)⟩, by simp⟩

/-- A ROUTE of level 0, an ADMIT of kind 2, a LEVRULE of no port, a RIFLOAD over the end of the store, a RIFCHAN with an unused
bit, a GROUPJOIN of member 3 of 3. -/
theorem witness_SetupExceptions_rows :
    FirstAtFault ((setup2 0x3C fS 0x8028 0x2000).routeRows fS 0x8028 0x2000) 1 0 ∧
    FirstAtFault (admitRows fS (14 ||| 0x40) admitB) 1 5 ∧ FirstAtFault (levruleRows fS 0x27 0) 1 6 ∧
    FirstAtFault (rifloadRows fS (127 <<< 2 ||| 2 <<< 9) 4096) 1 2 ∧
    FirstAtFault ((setup2 0x35 fS 81 rchB).rifchanRows fS 17 81 rchB) 1 6 ∧
    FirstAtFault ((setup2 0x36 fS 11 joinB).joinRows fS 11 joinB) 1 0 :=
  ⟨⟨[], _, _, rfl, by decide +kernel, by simp⟩, ⟨[], _, _, rfl, by decide +kernel, by simp⟩,
    ⟨[], _, _, rfl, by decide +kernel, by simp⟩, ⟨[], _, _, rfl, by decide +kernel, by simp⟩,
    ⟨[], _, _, rfl, by decide +kernel, by simp⟩, ⟨[], _, _, rfl, by decide +kernel, by simp⟩⟩

theorem witness_SetupExceptions_rows_run :
    runsSetup 0x3C fS [1, 2] 0x8028 0x2000 = true ∧ (setup2 0x3C fS 0x8028 0x2000).routeAbsent 0x8028 = none ∧
    runsSetup 0x3D fS [1, 2] (14 ||| 0x40) admitB = true ∧ ¬ (bitsAt admitB 0 16 = 0 ∧ bitsAt admitB 16 8 = 0) ∧
    (setup2 0x3D fS (14 ||| 0x40) admitB).admitAbsent (14 ||| 0x40) = none ∧
    runsSetup 0x3E fS [1, 2] 0x27 0 = true ∧ (0x27 : Data).getLsbD 5 = true ∧
    (setup2 0x3E fS 0x27 0).levruleAbsent 0x27 = none ∧ runsSetup 0x34 fS [1, 2] (127 <<< 2 ||| 2 <<< 9) 4096 = true ∧
    bitsAt (81 : Data) 0 6 = 17 ∧ runsSetup 0x35 fS [1, 2] 81 rchB = true ∧ runsSetup 0x36 fS [1, 2] 11 joinB = true := by
  decide +kernel

/-- RIFLOAD of words that nothing has written, and on a running engine. -/
theorem witness_SetupExceptions_rifload : runsSetup 0x34 fS [1, 2] rifA 4096 = true ∧
    (∀ x ∈ (rifloadRows fS rifA 4096), ¬ x.1) ∧ (setup2 0x34 fS rifA 4096).overlaps 0 4096 (8 * bitsAt rifA 9 8) = false ∧
    badStoreWord ((setup2 0x34 fS rifA 4096).res.deliver (4096 / 8 + 0)) = true ∧
    (eng rifloading true).runs 0 (encS 0x34 fS) [1, 2] true = true ∧ (eng rifloading true).badOperand 0 1 = false ∧
    (eng rifloading true).badOperand 0 2 = false ∧ (eng rifloading true).overlaps 0 4096 (8 * bitsAt rifA 9 8) = false ∧
    (∀ i, i < bitsAt rifA 9 8 → badStoreWord ((eng rifloading true).res.deliver (4096 / 8 + i)) = false) ∧
    (eng rifloading true).engines[(1 : EngNo)].running = true := by
  refine ⟨by decide +kernel, ?_, by decide +kernel⟩
  intro x hx
  simp only [rifloadRows, List.mem_cons, List.not_mem_nil, or_false] at hx
  rcases hx with rfl | rfl | rfl | rfl <;> decide +kernel

/-- RIFCHAN that enables a channel enabled on a running engine. -/
def rchOn : State := (eng (setup2 0x35 fS 17 rchB) true).modChan 17 fun c => { c with cfg := { c.cfg with enable := true } }

theorem witness_SetupExceptions_rifchan : rchOn.runs 0 (encS 0x35 fS) [1, 2] true = true ∧ rchOn.badOperand 0 1 = false ∧
    rchOn.badOperand 0 2 = false ∧ (∀ x ∈ (rchOn.rifchanRows fS 17 17 rchB), ¬ x.1) ∧ rchOn.engines[engOf 17].running = true ∧
    rchOn.chans[(17 : ChanNo)].latest.enable = true ∧ rchB.getLsbD 7 = true := by
  refine ⟨by decide +kernel, by decide +kernel, by decide +kernel, ?_, by decide +kernel⟩
  intro x hx
  simp only [State.rifchanRows, List.mem_cons, List.not_mem_nil, or_false] at hx
  rcases hx with rfl | rfl | rfl | rfl | rfl <;> decide +kernel

/-- GROUPLEAVE outside a group, PORT of INST 6, and PORT of a port that a GX7202 does not have. -/
theorem witness_SetupExceptions_ports :
    (at0 (encS 0x36 ⟨0, 0, 0, 0, 1⟩)).runs 0 (encS 0x36 ⟨0, 0, 0, 0, 1⟩) [] true = true ∧
    (at0 (encS 0x36 ⟨0, 0, 0, 0, 1⟩)).group.joined = false ∧
    (at0 (encS 0x37 ⟨0, 0, 0, 6, 1⟩)).runs 0 (encS 0x37 ⟨0, 0, 0, 6, 1⟩) [] true = true ∧ 5 < (6 : BitVec 3).toNat ∧
    ({ at0 (encS 0x37 ⟨0, 0, 0, 2, 1⟩) with part := .gx7202 } : State).runs 0 (encS 0x37 ⟨0, 0, 0, 2, 1⟩) [] true = true ∧
    ({ at0 (encS 0x37 ⟨0, 0, 0, 2, 1⟩) with part := .gx7202 } : State).hasPb 2 = false := by decide +kernel

/-- The joined member with the GROUP instance as said. -/
def joinedAt (f : FmtS) (op : BitVec 6) (u : Bool) : State :=
  (setf (member (at0 (encS op f))) .group 0 (key 1 0) 5).modSub .group 0 fun x => { x with unlocked := u }

/-- A profile instruction of an instance with a code. -/
def fInst (u : Sub) (i c : Nat) : FmtS := ⟨0, 0, BitVec.ofNat 4 u.code, BitVec.ofNat 3 i, BitVec.ofNat 13 c⟩

theorem witness_SetupExceptions_profiles :
    ({ at0 (encS 0x38 (fInst .parene 2 1)) with part := .gx7202 } : State).runs 0 (encS 0x38 (fInst .parene 2 1)) [] true = true ∧
    2 < Sub.count .parene ∧ ({ at0 (encS 0x38 (fInst .parene 2 1)) with part := .gx7202 } : State).present .parene 2 = false ∧
    (∀ row ∈ profileRows, (at0 (encS 0x38 (fInst row.2 0 63))).runs 0 (encS 0x38 (fInst row.2 0 63)) [] true = true ∧
      (at0 (encS 0x38 (fInst row.2 0 63))).subAbsent row.2 0 = none ∧ profileFields row.2 63 = none ∧
      (at0 (encS 0x38 (fInst row.2 6 1))).runs 0 (encS 0x38 (fInst row.2 6 1)) [] true = true ∧
      profileFields row.2 1 ≠ none ∧ row.2.count ≤ 6) ∧
    (joinedAt (fInst .group 0 1) 0x38 false).runs 0 (encS 0x38 (fInst .group 0 1)) [] true = true ∧
    (joinedAt (fInst .group 0 1) 0x38 false).instances .group 0 = some [0] ∧
    ((joinedAt (fInst .group 0 1) 0x38 false).sub .group 0).unlocked = false ∧
    (joinedAt (fInst .group 0 1) 0x38 false).mayChange .group ((joinedAt (fInst .group 0 1) 0x38 false).sub .group 0).fields
      ((profileFields .group 1).getD []) none = false := by decide +kernel

theorem witness_SetupExceptions_expert : ∀ x ∈ ([0, 1] : List Nat),
    ({ at0 (encS 0x39 (fInst .parene 2 x)) with part := .gx7202 } : State).runs 0 (encS 0x39 (fInst .parene 2 x)) [] true = true ∧
    ({ at0 (encS 0x39 (fInst .parene 2 x)) with part := .gx7202 } : State).present .parene 2 = false ∧
    (at0 (encS 0x39 (fInst .weir 6 x))).runs 0 (encS 0x39 (fInst .weir 6 x)) [] true = true ∧ Sub.count .weir ≤ 6 ∧
    (joinedAt (fInst .group 0 0) 0x39 true).runs 0 (encS 0x39 (fInst .group 0 0)) [] true = true ∧
    (joinedAt (fInst .group 0 0) 0x39 true).subAbsent .group 0 = none ∧
    (joinedAt (fInst .group 0 0) 0x39 true).mayLock .group 0 = false := by decide +kernel

/-- XCTL of page 15, of a field that does not exist, of an instance that does not exist, of RTYMAX 0, and of a VMIN over VMAX. -/
theorem witness_SetupExceptions_xctl :
    (∀ x ∈ ([(.parene, 3, 15, 0, 1), (.parene, 3, 0, 63, 1), (.parene, 5, 0, 5, 1), (.parene, 3, 0, 5, 0),
      (.lane, 0, 4, 6, 63)] : List (Sub × Nat × Nat × Nat × Data)),
      runsXctl (xctl x.1 x.2.1 x.2.2.1 x.2.2.2.1 0 x.2.2.2.2) = true) ∧
    aget (key 0 63) (fieldLimits .parene) = none ∧ Sub.count .parene ≤ 5 ∧ (Limit.range 1 255).admits 0 = false ∧
    (aget (key 4 6) (fieldLimits .lane)).isSome = true ∧
    jointOk .lane (aset (key 4 6) 63 ((xctl .lane 0 4 6 0 63).1.sub .lane 0).fields) = false := by decide +kernel

theorem witness_SetupExceptions_lock :
    (setr (at0 (encS 0x3A xRty.2)) 1 255).runs 0 (encS 0x3A xRty.2) [1] true = true ∧
    ((setr (at0 (encS 0x3A xRty.2)) 1 255).sub .parene xRty.2.inst.toNat).unlocked = false := by decide +kernel

/-! ### The buffer's own steps and the Gauge -/

/-- An entry of thread 0 for line 64 with a whole word. -/
def cent (d : Bool) : CEntry :=
  { thread := 0, line := 64, words := (Vector.replicate 8 ⟨0, 0, false, 0⟩).set 0 ⟨5, 0xFF, true, 0⟩, isOpen := !d, draining := d }

def buffered (d : Bool) : State := { up with seq := { up.seq with conf := [cent d] } }

theorem witness_DrainsAndWindows : ∀ d : Bool, (buffered d).clocked = true ∧ (buffered d).seq.conf = [] ++ cent d :: [] ∧
    (cent d).thread = 0 ∧ (cent d).line = 64 ∧ (cent d).draining = d ∧ (buffered d).protHolds 0 64 = false := by decide +kernel

def window (q : List Prot) : State := { up with seq := { up.seq with prot := [⟨64, 0⟩], protQueue := q } }

theorem witness_DrainsAndWindows_window :
    (window []).clocked = true ∧ ((window []).seq.prot.find? fun p => p.granule = 64) = some ⟨64, 0⟩ ∧
    nextOwner (window []).seq.protQueue 64 0 = none ∧ nextOwner (window [⟨64, 3⟩]).seq.protQueue 64 0 = some ⟨64, 3⟩ := by
  decide +kernel

/-- A visit of channel 2, with `m` outputs made, and a ring of `n` words at 4096. -/
def visiting (m : Nat) (n : Data) : State :=
  let s := setf (setf up .gauge 0 1 4096) .gauge 0 2 n
  { s with gauge := { s.gauge with visit := some 2, made := m } }

theorem witness_GaugeOutputs_code : (0 : Int).natAbs * 2 ^ bitsAt (0 : BitVec 64) 0 3 < 40000000000 ∧
    (-20000000000) * ((2 ^ 0 * 2 ^ 23 : Nat) : Int) = (-(2 ^ 22)) * 40000000000 := by decide +kernel

theorem witness_GaugeOutputs : ∀ n ∈ ([0, 1024] : List Nat), ∀ m ∈ ([0, 5] : List Nat),
    (visiting m (BitVec.ofNat 64 n)).clocked = true ∧ (visiting m (BitVec.ofNat 64 n)).gauge.visit = some (2 : Fin 20).val ∧
    (visiting m (BitVec.ofNat 64 n)).fld .gauge 0 2 = n ∧
    decide ((visiting m (BitVec.ofNat 64 n)).gauge.made < settleOf (visiting m (BitVec.ofNat 64 n)).gauge.cfg) = (m == 0) := by
  decide +kernel

/-! ### Lanes -/

/-- Port 0 at a stage, lane 0 changed by `f`. -/
def lane (st : Nat) (f : Lane → Lane) : State :=
  let s := up.modLn 0 fun q => { q with stage := st }
  s.modLn 0 fun q => { q with lanes := q.lanes.set 0 (f q.lanes[0]) }

theorem witness_LaneBringUp_signal :
    ((lane 1 fun x => { x with stage := 2, signal := true }).laneOf 0).signal = true ∧
    ((lane 1 fun x => { x with stage := 2, signal := true }).laneOf 0).stage = 2 ∧
    (((lane 1 fun x => { x with stage := 3, signal := true }).modLn 0 fun q =>
      { q with lanes := q.lanes.set 1 { q.lanes[1] with stage := 2, signal := true } }).laneOf 0).signal = true ∧
    ((lane 1 fun x => { x with stage := 3 }).modLn 0 fun q =>
      { q with lanes := q.lanes.set 1 { q.lanes[1] with stage := 2, signal := true } }).lanes[lanePort 0].lanes[
        (1 : Fin 4)].signal = true := by decide +kernel

theorem witness_LaneBringUp_stages : ∀ st : Fin 4, (lane 1 fun x => { x with stage := st.val }).laneLive (lanePort 0) = true ∧
    (lane 1 fun x => { x with stage := st.val }).lanes[lanePort 0].waiting10 = false ∧
    (lane 1 fun x => { x with stage := st.val }).lanes[lanePort 0].stage ≤ 4 ∧
    ((lane 1 fun x => { x with stage := st.val }).laneOf 0).stage = st.val ∧
    (∀ i : Fin 4, (lane 1 fun x => { x with stage := st.val }).lanes[lanePort 0].lanes[i].stage ≠ 4) := by decide +kernel

/-- A valid training frame of lane 0 with READY, and the same with another sense. -/
def frame (inv : Bool) : TrainFrame := { inverted := inv, ctrl := 0x20000, crc := tfCrc 0x20000 }

theorem witness_LaneBringUp_markers :
    ((lane 1 fun x => { x with stage := 2, markers := 2 }).laneOf 0).markers < 3 ∧
    3 ≤ ((lane 1 fun x => { x with stage := 2, markers := 3 }).laneOf 0).markers ∧
    ((lane 1 fun x => { x with stage := 3 }).laneOf 0).sense ≠ (frame true).inverted ∧
    ((lane 1 fun x => { x with stage := 3, markers := 6 }).laneOf 0).sense = (frame false).inverted ∧
    ((lane 1 fun x => { x with stage := 3, markers := 6 }).laneOf 0).markers < 7 ∧
    7 ≤ ((lane 1 fun x => { x with stage := 3, markers := 7 }).laneOf 0).markers := by decide +kernel

theorem witness_LaneBringUp_other : ∃ i : Fin 4, i ≠ laneIn 0 ∧
    (((lane 1 fun x => { x with stage := 3 }).modLn 0 fun q => { q with lanes := q.lanes.set 1 { q.lanes[1] with stage := 2 } }).lanes[
      lanePort 0].lanes[i].stage = 2) := ⟨1, by decide +kernel⟩

theorem witness_LaneBringUp_training :
    (lane 5 fun x => { x with stage := 4, switched := true }).laneLive (lanePort 0) = true ∧
    (lane 5 fun x => { x with stage := 4, switched := true }).lanes[lanePort 0].waiting10 = false ∧
    (lane 5 fun x => { x with stage := 4, switched := true }).lanes[lanePort 0].stage = 5 ∧
    ((lane 5 fun x => { x with stage := 4, switched := true }).laneOf 0).stage = 4 ∧
    ((lane 5 fun x => { x with stage := 4, switched := true }).laneOf 0).switched = true ∧ tfValid (frame false) = true ∧
    tfCmd (frame false).ctrl = 0 := by decide +kernel

theorem witness_LaneBringUp_timeouts : ∀ st ∈ ([4, 5, 6] : List Nat),
    (lane st id).laneLive (lanePort 0) = true ∧ (lane st id).lanes[lanePort 0].waiting10 = false ∧
    (lane st id).lanes[lanePort 0].stage = st ∧ (lane st id).lanes[lanePort 0].relocking = false ∧
    (lane st id).lanes[lanePort 0].sending ≠ some .retrain := by decide +kernel

theorem witness_LaneBringUp_rates :
    (∃ r ∈ (lane 5 id).lanes[lanePort 0].rates, (lane 5 id).lanes[lanePort 0].failed.getLsbD r = false ∧
      r ≠ (lane 5 id).lanes[lanePort 0].rate.toNat) ∧
    (∀ r ∈ ((lane 5 id).modLn 0 fun q => { q with failed := 6 }).lanes[lanePort 0].rates,
      ((lane 5 id).modLn 0 fun q => { q with failed := 6 }).lanes[lanePort 0].failed.getLsbD r = true ∨
        r = ((lane 5 id).modLn 0 fun q => { q with failed := 6 }).lanes[lanePort 0].rate.toNat) := by decide +kernel

theorem witness_LaneBringUp_rest :
    (lane 5 fun x => { x with switched := true }).lanes[lanePort 0].stage = 5 ∧
    ((lane 5 fun x => { x with switched := true }).laneOf 0).switched = true ∧
    ((up.modLn 1 fun q => { q with waiting10 := true })).lanes[(1 : MxNo)].waiting10 = true := by decide +kernel

/-! ### The link -/

/-- A good codeword of idle flits, and an uncorrectable one. -/
def codeword (bad : Bool) : Codeword := { marker := 0x5A3, bad := bad, corrected := [], flits := List.replicate 10 0 }

theorem test_wf_codeword : (Instr.codewordReceive 0 { codeword false with corrected := [4] }).wellFormed = false ∧
    (Instr.codewordReceive 0 { codeword false with flits := List.replicate 11 0 }).wellFormed = false ∧
    (Instr.codewordReceive 0 (codeword false)).wellFormed = true := by decide +kernel

/-- Port 0 at a stage with its runs, transaction layer up in link up. -/
def linkAt (st good bad : Nat) : State :=
  let s := up.modLn 0 fun q => { q with stage := st, goodRun := good, badRun := bad }
  s.modMxt 0 fun m => { m with up := st == 7 }

theorem witness_LinkAndEyes_good : ∀ x ∈ ([(6, 2, 0), (6, 3, 0), (7, 0, 6), (7, 0, 7)] : List (Nat × Nat × Nat)),
    (linkAt x.1 x.2.1 x.2.2).laneLive 0 = true ∧
    (codeword false).flits.all (fun c => !flitReserved c && !flitBadTxn c) = true ∧
    (linkAt x.1 x.2.1 x.2.2).lanes[(0 : MxNo)].uncorrectable (codeword false) = false ∧ cwSync (codeword false) = true ∧
    (linkAt x.1 x.2.1 x.2.2).lanes[(0 : MxNo)].uncorrectable (codeword true) = true ∧
    (linkAt x.1 x.2.1 x.2.2).mxt[(0 : MxNo)].reqs = [] := by decide +kernel

theorem witness_LinkAndEyes_drop :
    (∀ i ∈ ((linkAt 7 0 7).modLn 0 fun q => { q with lanes := q.lanes.map fun l => { l with signal := true } }).lanes[
      (0 : MxNo)].used,
      ((linkAt 7 0 7).modLn 0 fun q => { q with lanes := q.lanes.map fun l => { l with signal := true } }).lanes[
        (0 : MxNo)].lanes[i].signal = true) ∧
    forced (linkAt 7 0 7).lanes[(0 : MxNo)].inForce 6 ≠ 1 ∧ (linkAt 7 0 7).lanes[(0 : MxNo)].sending ≠ some .retrain ∧
    (∃ i ∈ (linkAt 7 0 7).lanes[(0 : MxNo)].used, (linkAt 7 0 7).lanes[(0 : MxNo)].lanes[i].signal = false) := by
  decide +kernel

theorem witness_LinkAndEyes_signal :
    (linkAt 7 0 0).laneLive (lanePort 0) = true ∧ (linkAt 7 0 0).lanes[lanePort 0].stage = 7 ∧
    (linkAt 7 0 0).lanes[lanePort 0].inWidth (laneIn 0) = true ∧ (linkAt 7 0 0).mxt[lanePort 0].reqs = [] ∧
    (up.modLn 0 fun q => { q with relocking := true }).lanes[(0 : MxNo)].relocking = true := by decide +kernel

theorem witness_LinkAndEyes_sending : ∀ x : Bool,
    ((linkAt 7 0 0).modLn 0 fun q => { q with sending := some (if x then .relock else .retrain) }).mxt[(0 : MxNo)].reqs = [] ∧
    ((linkAt 7 0 0).modLn 0 fun q => { q with sending := some (if x then .relock else .retrain) }).lanes[(0 : MxNo)].sending =
      some (if x then .relock else .retrain) := by decide +kernel

theorem witness_LinkAndEyes_fom : (∀ st ∈ ([5, 7] : List Nat), 5 ≤ (linkAt st 0 0).lanes[lanePort 0].stage ∧
      (linkAt st 0 0).lanes[lanePort 0].inWidth (laneIn 0) = true) ∧
    ((linkAt 7 0 0).modLn 0 fun q => { q with width := 0 }).lanes[lanePort 1].inWidth (laneIn 1) = false ∧
    ((linkAt 7 0 0).laneOf 0).fom.toNat < (setf (linkAt 7 0 0) .lane 0 (key 2 7) 9).fld .lane (lanePort 0).val (key 2 7) ∧
    (setf (linkAt 7 0 0) .lane 0 (key 4 0) 9).lanes[(0 : MxNo)].scan = none ∧
    (setf (linkAt 7 0 0) .lane 0 (key 4 0) 9).fld .lane 0 (key 4 0) ≠ 0 ∧
    ([[⟨[], []⟩]] : List (List EyeSweep)).length ≤ (linkAt 7 0 0).lanes[(0 : MxNo)].lanesOf ∧
    (linkAt 7 0 0).lanes[(0 : MxNo)].width.toNat ≤ 2 := by decide +kernel

/-- Error counts around offset 0: one open on both sides, one with an error there. -/
theorem witness_LinkAndEyes_span : ([3, 0, 0, 0, 1] : List Nat)[2]? = some 0 ∧ ([0, 4, 0] : List Nat)[1]? ≠ some 0 ∧
    ([3, 0, 0, 0, 1] : List Nat).length = 5 := by decide +kernel

/-- The opening runs between the outermost points without errors around offset 0 (R153). -/
theorem test_eye_span : eyeSpan [3, 0, 0, 0, 1] 2 = 2 ∧ eyeSpan [0, 4, 0] 1 = 0 := by decide +kernel

/-- A scan of one lane, one eye, two points. -/
def aScan : Scan :=
  { addr := 4096, lanes := [0], eyes := [1], phMin := 0, phStep := 1, np := 2, vMin := 0, vStep := 1, nv := 1, dwell := 10,
    rate := 1, result := 0, started := 0, stopped := none, foms := [] }

theorem witness_LinkAndEyes_scan :
    (up.modLn 0 fun q => { q with scan := some aScan }).lanes[(0 : MxNo)].scan = some aScan ∧ aScan.addr % 8 = 0 ∧
    ([{ errors := [0, 5] }] : List ScanBlock).length = aScan.blocks.length ∧ aScan.blocks[0]? = some (0, 1) ∧
    (∀ b ∈ ([{ errors := [0, 5] }] : List ScanBlock), b.errors ≠ []) := by decide +kernel

/-! ### Packets -/

/-- A header with a tag, a source and a length. -/
def hdr (tag : BitVec 10) (src : BitVec 16) (len : BitVec 9) : Hdr :=
  { tag := tag, psn := 0, src := src, dst := 0, len := len, pair := false, retx := false, rsv := 0 }

/-- The window of the tests: 2^8 words of port 1 at 0x10000, wide, with options. -/
def aWin (d : WinDir) (j : Bool) : Win :=
  { base := 0x10000, pbase := 0x100, size := 8, port := 1, io := false, width := .narrow, order := .none, trust := 3,
    device := true, ewa := 0, jrnl := j, hold := false, pairAtomic := false, dir := d, mxport := 0, odom := 0 }

/-- Port 0 in link up, source rule for everybody, the window, port 1 enabled. -/
def linked : State :=
  let s := (linkAt 7 0 0).modMxt 0 fun m => { m with epid := 9 }
  let s := s.modPb 1 fun b => { b with enabled := true, recorded := true, phase := .normal }
  { s with windows := [(3, aWin .inbound false)],
           rules := [(0, { onMx0 := true, onMx1 := true, trust := 3, read := true, write := true, keepOrigin := true,
                           srcLo := 0, srcHi := 0xFFFF })],
           routes := [(27, { mxport := 0, vector := 0, isLocal := false, addr := 0x2000 })] }

/-- A request of 8 bytes in the window. -/
def aReq (l : List Word) : ReqPkt :=
  { h := hdr 4 5 8, addr := 0x10000, odom := 0, otoken := 0, wseq := 1, h2rsv := 0, data := l }

def reqRows : List (RqKind × List Word) := [(.rd, []), (.wrn, [constWord 6]), (.wrp, [constWord 6])]

/-- The request as it has passed Levee and its window. -/
def aRq (x : RqKind × List Word) : Req :=
  { linked.reqOf 0 x.1 (aReq x.2) linked.nextId x.2 with trust := 3, wno := 3, win := aWin .inbound false }

theorem witness_RequestsReceived : ∀ x ∈ reqRows,
    linked.takesPsn 0 (aReq x.2).h.psn = true ∧ reqOk x.1 (aReq x.2) = true ∧ linked.tagInUse 0 (aReq x.2) = false ∧
    linked.inAperture 0 (aReq x.2).addr.toNat (aReq x.2).h.len.toNat = false ∧
    linked.intsHeld 0 (aReq x.2).h.src = [] ∧
    linked.levCheck (some 0) x.1 (aReq x.2).h.src ((aReq x.2).data.map fixOrigin) = .pass 3 x.2 ∧
    linked.lookup (aReq x.2).addr.toNat (aReq x.2).h.len.toNat = some (3, aWin .inbound false) := by decide +kernel

theorem witness_RequestsReceived_servable : ∀ x ∈ reqRows,
    linked.stage4 (aRq x).win.port (aRq x).fromPeer = .pass ∧
    (rqWrites (aRq x).kind = true → (aWin .inbound false).writable (aRq x).addr (aRq x).len = true) ∧
    (aWin .inbound false).jrnl = false ∧ (aRq x).pair = false ∧ linked.pb[(aWin .inbound false).port].enabled = true ∧
    linked.classOf (aRq x) = some (0, WeirClass.initial) ∧ WeirClass.initial.deny = false ∧
    linked.cost (aRq x) ≤ WeirClass.initial.depth.toNat ∧ 1000 * linked.cost (aRq x) ≤ WeirClass.initial.avail := by
  decide +kernel

/-- `linked` with an INT of source 5 held behind an older posted write. -/
def intHeld : State :=
  linked.modMxt 0 fun m => { m with flushes := [{ id := 2, src := 5, tag := 0, before := [1], int := some (aReq []), wrp := none }] }

theorem witness_RequestsReceived_wrp : intHeld.takesPsn 0 0 = true ∧ reqOk .wrp (aReq [constWord 6]) = true ∧
    intHeld.tagInUse 0 (aReq [constWord 6]) = false ∧ intHeld.intsHeld 0 5 = [2] := by decide +kernel

/-- `linked` with a posted write of source 5 still to complete. -/
def posted : State := linked.modMxt 0 fun m => { m with ins := [{ src := 5, tag := 0, id := 1, posted := true }] }

theorem witness_RequestsReceived_flush : ∀ s ∈ [linked, posted],
    s.takesPsn 0 0 = true ∧ reqOk .flush { aReq [] with h := hdr 4 5 0 } = true ∧
    s.tagInUse 0 { aReq [] with h := hdr 4 5 0 } = false ∧ s.levCheck (some 0) .flush 5 [] = .pass 3 [] ∧
    s.group.joined = false ∧ s.mxt[(0 : MxNo)].flushes = [] ∧
    ((∃ i ∈ s.mxt[(0 : MxNo)].ins, i.posted = true ∧ i.src = 5) ↔ s = posted) := by decide +kernel

/-- An INT to the route's address. -/
def anInt : ReqPkt := { aReq [constWord 0] with h := hdr 0 5 0, addr := 0x2000 }

theorem witness_RequestsReceived_int : linked.takesPsn 0 anInt.h.psn = true ∧ reqOk .int anInt = true ∧
    linked.levCheck (some 0) .int anInt.h.src (anInt.data.map fixOrigin) = .pass 3 [constWord 0] ∧ linked.group.joined = false ∧
    linked.mxt[(0 : MxNo)].flushes = [] ∧
    (∀ i ∈ linked.mxt[(0 : MxNo)].ins, i.posted = true → i.src ≠ anInt.h.src) ∧
    linked.routeFor anInt.addr = some (1, 5, { mxport := 0, vector := 0, isLocal := false, addr := 0x2000 }) := by decide +kernel

/-- An LDX of thread 0 outstanding under tag 6, W3 waiting for its status. -/
def anExt : Ext :=
  { id := 7, thread := 0, route := 1, kind := .ldx, posted := false, addr := 0x500, len := 8, rdst := 0, odom := 0, parts := [],
    ready := false, performed := false, completed := false }

def outReq : OutReq := { tag := 6, owner := .ext 7, read := true, addr := 0x500, len := 8, parts := [] }

def awaiting : State :=
  let s := (wait7 linked 3).modMxt 0 fun m => { m with reqs := [outReq] }
  { s with seq := { s.seq with ext := [anExt] } }

/-- Its response. -/
def aRsp : RspPkt :=
  { h := { hdr 6 5 8 with dst := 9 }, code := 0, offset := 0, rsv1 := 0, hint := 0, rsv2 := 0, data := [constWord 1] }

theorem witness_LinkLayer_rsp : awaiting.takesPsn 0 aRsp.h.psn = true ∧ rspOk aRsp = true ∧
    aRsp.h.dst = awaiting.mxt[(0 : MxNo)].epid ∧ aRsp.code.toNat < 0xC ∧
    (awaiting.mxt[(0 : MxNo)].reqs.find? fun y => y.tag = aRsp.h.tag) = some outReq ∧ outReq.owner = .ext 7 ∧
    outReq.parts = [] ∧ outReq.len = aRsp.h.len.toNat ∧ aRsp.offset = 0 ∧
    outReq.fits 0 outReq.len aRsp.code.toNat aRsp.data.length = true := by decide +kernel

theorem witness_LinkLayer_rsp_ext :
    (awaiting.grant (some 0) aRsp.h.src).any (fun g => g.read) = true ∧ 0 < 7 ∧ anExt.id = 7 ∧ anExt.len = outReq.len ∧
    anExt.parts = [] ∧ anExt.performed = false ∧ awaiting.seq.ext = [anExt] ∧ (awaiting.thr anExt.thread).wait = .none ∧
    (∀ h : PbNo, awaiting.pb[h].acc = none ∧ awaiting.pb[h].ewaOut = []) ∧
    (awaiting.thr anExt.thread).rf.ready 3 = false ∧ (awaiting.thr anExt.thread).rf.waits[(3 : Reg)] = 7 := by decide +kernel

/-- The status of a response reaches its register (R55, R168). -/
theorem test_rsp_status : seen (exec (.rsp 0 aRsp) awaiting) (fun n => n.reg 0 3) = some (statusWord 0 0) := by decide +kernel

/-- A TIME packet, with and without an echo. -/
def aTime (e : Data) : TimePkt :=
  { h := hdr 0 5 0, txtime := constWord 100, echotx := constWord e, echorx := constWord 50 }

theorem witness_LinkLayer_time : linked.takesBare 0 = true ∧ bareOk (aTime 0).h = true ∧ linked.group.joined = false ∧
    ({ linked with time := { linked.time with sourcePort := some 0 } } : State).time.sourcePort = some 0 ∧
    dataOf (aTime (BitVec.allOnes 64)).echotx = BitVec.allOnes 64 ∧ dataOf (aTime 20).echotx ≠ BitVec.allOnes 64 := by
  decide +kernel

/-- A packet of PSN 0 waits for its acknowledgement. -/
def unacked : State :=
  linked.modMxt 0 fun m => { m with unacked := [{ psn := 0, flits := 1, pkt := .rsp aRsp }], txPsn := 1 }

theorem witness_LinkLayer_lcp : unacked.takesBare 0 = true ∧
    ackedTo 0 unacked.mxt[(0 : MxNo)].unacked = some [] ∧ ackedTo 9 unacked.mxt[(0 : MxNo)].unacked = none ∧
    unacked.mxt[(0 : MxNo)].unacked ≠ [] ∧ unacked.mxt[(0 : MxNo)].up = true ∧
    unacked.mxt[(0 : MxNo)].replays < unacked.fld .mxt 0 (key 1 2) := by decide +kernel

theorem witness_LinkLayer_assign : (linkAt 7 0 0).takesBare 0 = true ∧ bareOk { hdr 0 5 0 with dst := 9 } = true ∧
    (linkAt 7 0 0).mxt[(0 : MxNo)].fixed = false ∧ (linkAt 7 0 0).mxt[(0 : MxNo)].epid = 0 ∧ linked.takesBare 0 = true ∧
    linked.mxt[(0 : MxNo)].fixed = false ∧ linked.mxt[(0 : MxNo)].epid ≠ 0 := by decide +kernel

/-- Port 0 encrypted, with a key of epoch 0 for both directions, an open transmit segment, and the packets it holds. -/
def sealing (l : List Pkt) : State :=
  linked.modMxt 0 fun m =>
    { m with encTx := true, encRx := true, txKey := some ⟨1, 2, 0, none⟩, rxKeys := m.rxKeys.set 0 (some ⟨1, 2, 0, none⟩),
             seg := [⟨0, []⟩], held := l.map fun k => (k, 0) }

theorem witness_LinkLayer_seal : linked.mxt[(0 : MxNo)].up = true ∧ linked.mxt[(0 : MxNo)].encMismatch = false ∧
    linked.mxt[(0 : MxNo)].encRx = false ∧ (sealing []).mxt[(0 : MxNo)].up = true ∧
    (sealing []).mxt[(0 : MxNo)].encRx = true ∧ (sealing []).mxt[(0 : MxNo)].held = [] ∧
    (sealing []).mxt[(0 : MxNo)].encMismatch = false ∧ (sealing []).mxt[(0 : MxNo)].authTimes.length < 15 ∧
    (sealing []).mxt[(0 : MxNo)].sealKey { segno := 1, epoch := 1, tag := 0, zeros := true } = none ∧
    (sealing [.rsp aRsp]).mxt[(0 : MxNo)].held ≠ [] ∧ (sealing []).mxt[(0 : MxNo)].encTx = true ∧
    (sealing []).mxt[(0 : MxNo)].seg ≠ [] ∧ (sealing []).mxt[(0 : MxNo)].txKey.isSome = true := by decide +kernel

/-- A response as it waits to be sent. -/
def aQueued : QPkt := { ord := 0, thr := none, pkt := .rsp aRsp }

/-- Port 0 with it queued. -/
def queued : State := linked.modMxt 0 fun m => { m with queues := m.queues.set 2 [aQueued] }

theorem witness_LinkLayer_transmit :
    queued.mxt[(0 : MxNo)].queues[(2 : Fin 4)] = aQueued :: [] ∧
    queued.sendable 0 2 aQueued = true ∧ queued.canSend 0 1 = true := by decide +kernel

theorem witness_LinkLayer_completion :
    (awaiting.mxt[(0 : MxNo)].reqs.find? fun y => y.tag = 6) = some outReq ∧ outReq.owner = .ext 7 ∧
    (∀ h : PbNo, awaiting.pb[h].acc = none) ∧ (∀ h : PbNo, awaiting.pb[h].ewaOut = []) := by decide +kernel

/-- Port 1 with an early-acknowledged write through window 3, which is closed since. -/
def early : State :=
  linked.modPb 1 fun b => { b with ewaOut := [{ id := 1, wno := 3, addr := 0x500, mxport := 0, flush := none }] }

theorem witness_LinkLayer_ewa : early.pb[(1 : PbNo)].ewaOut = [] ++ [{ id := 1, wno := 3, addr := 0x500, mxport := 0, flush := none }] ∧
    (∀ x ∈ early.pb[(1 : PbNo)].ewaOut, x.wno = (3 : Byte).toNat ∧ x.mxport = 0 ∧ x.flush = none) ∧ early.freeTag 0 = some 0 := by
  decide +kernel

/-- The seal of an empty segment under the key of epoch 0. -/
def aSeal : SealFlit :=
  { segno := 1, epoch := 0, tag := BitVec.ofNat 128 (leBits ((⟨1, 2, 0, none⟩ : LinkKey).crypt 1 []).2), zeros := true }

theorem witness_LinkLayer_verifies : (sealing []).mxt[(0 : MxNo)].encRx = true ∧ (sealing []).mxt[(0 : MxNo)].held = [] ∧
    (sealing []).mxt[(0 : MxNo)].sealKey aSeal = some ⟨1, 2, 0, none⟩ := by decide +kernel

/-! ### Weir and the journal -/

/-- A WRN of source 5 that port 0 brought, through the window. -/
def aWrn (j : Bool) : Req := { aRq (.wrn, [constWord 6]) with win := aWin .inbound j }

def aWait (j : Bool) : Waiting :=
  { req := aWrn j, cls := 0, prio := 0, hintCap := 1000, took := 1000, lines := 1, reserved := true, arrived := 0 }

/-- Port 1 with the request waiting, the journal on. -/
def waiting (j : Bool) : State := (jrnl linked []).modPb 1 fun b => { b with waiting := [aWait j] }

theorem witness_WeirAndJournal_serve : ∀ j : Bool, (waiting j).clocked = true ∧
    (waiting j).pb[(1 : PbNo)].jobs.length < (waiting j).fld .weir 1 0 ∧ (waiting j).nextServed 1 = some (aWait j) ∧
    (aWait j).req.win.port = 1 ∧ (aWait j).req.org = .mx 0 0 ∧ (aWait j).req.odom = 0 ∧ (aWait j).req.win.odom = 0 ∧
    ((aWait j).req.kind == .wrn && (aWait j).req.win.early) = false ∧
    ((aWait j).req.win.jrnl && rqWrites (aWait j).req.kind) = j ∧ (waiting j).pb[(1 : PbNo)].ext ≠ .low ∧
    (waiting j).pb[(1 : PbNo)].enabled = true ∧ (waiting j).group.joined = false := by decide +kernel

/-- The same with Weir's places all taken. -/
def full : State := setf (waiting false) .weir 1 0 0

theorem witness_WeirAndJournal_defer : full.clocked = true ∧ full.pb[(1 : PbNo)].waiting = aWait false :: [] ∧
    full.fld .weir 1 0 ≤ full.pb[(1 : PbNo)].jobs.length ∧ (aWait false).req.org = .mx 0 full.mxt[(0 : MxNo)].gen ∧
    rqPosted (aWait false).req.kind = false ∧ full.mxt[(0 : MxNo)].up = true ∧ full.mxt[(0 : MxNo)].flushes = [] ∧
    full.pb[(1 : PbNo)].classes[(0 : Fin 8)] = some WeirClass.initial := by decide +kernel

theorem witness_WeirAndJournal_entry : ∀ b : Bool,
    (jrnl up [jent 1 (if b then .final else .recorded) false]).entry 1 (1 : BitVec 48).toNat =
      some (jent 1 (if b then .final else .recorded) false) ∧
    ((jent 1 (if b then .final else .recorded) false).state = .final ↔ b = true) ∧
    (jent 1 (if b then .final else .recorded) false).mirrored = false ∧
    (jrnl up [jent 1 (if b then .final else .recorded) false]).outAcked (jent 1 (if b then .final else .recorded) false) =
      true ∧
    (jrnl up [jent 1 (if b then .final else .recorded) false]).journal.attention.length < 64 ∧
    (jent 1 (if b then .final else .recorded) false).hasWseq = true := by decide +kernel

/-- A joined steward whose journal is mirrored by members 1 and 2, with one entry. -/
def mirroring (x : JState) : State :=
  let s := setf (setf (member (jrnl up [jent 1 x false])) .oxbow 0 2 1) .group 0 (key 1 1) 7
  { s with group := { s.group with stewards := s.group.stewards.set 1 (some 0) } }

theorem witness_WeirAndJournal_mirror : (mirroring .recorded).entry 1 (1 : BitVec 48).toNat = some (jent 1 .recorded false) ∧
    ((mirroring .recorded).mirrorPeers 1 &&& ~~~(jent 1 .recorded false).recAck) ≠ 0 ∧
    (∀ t, (mirroring .recorded).waitsFor evGroup t = false) ∧ (mirroring .final).outAcked (jent 1 .final false) = false := by
  decide +kernel

/-! ### Parene ports -/

/-- Port 1 of `linked` changed. -/
def port (f : Pb → Pb) : State := linked.modPb 1 f

theorem witness_PareneArbitrationAndReset : (port id).pb[(1 : PbNo)].listens = true ∧
    (port fun b => { b with ext := .low }).pb[(1 : PbNo)].listens = false ∧
    (port fun b => { b with ext := .wait }).pb[(1 : PbNo)].listens = true ∧
    (port fun b => { b with granted := true }).pb[(1 : PbNo)].granted = true ∧
    (port fun b => { b with tenure := some 3 }).pb[(1 : PbNo)].tenure ≠ none ∧
    (port fun b => { b with tenure := some 3 }).pb[(1 : PbNo)].tgt = .idle ∧
    (port fun b => { b with tenure := some 3 }).pb[(1 : PbNo)].disabling = false ∧ (5 : BitVec 3) ≠ 0 := by decide +kernel

theorem witness_PareneArbitrationAndReset_phases : ∀ ph ∈ ([.pulse, .resetWait, .observedWait, .observing] : List PbPhase),
    (port fun b => { b with phase := ph }).pb[(1 : PbNo)].phase = ph ∧
    (port fun b => { b with phase := ph }).group.takeover[(1 : PbNo)] = none ∧
    (port fun b => { b with phase := ph }).pb[(1 : PbNo)].ext = .none ∧
    (port fun b => { b with phase := ph, ext := .low }).pb[(1 : PbNo)].phase = ph ∧
    (port fun b => { b with phase := ph, ext := .low }).pb[(1 : PbNo)].ext ≠ .none := by decide +kernel

/-- Port 1 in the observation of a takeover. -/
def takeover : State :=
  let s := member (port fun b => { b with phase := .observing })
  { s with group := { s.group with stewards := s.group.stewards.set 1 (some 0), takeover := s.group.takeover.set 1 (some 5) } }

theorem witness_PareneArbitrationAndReset_takeover : takeover.pb[(1 : PbNo)].phase = .observing ∧
    takeover.group.takeover[(1 : PbNo)] ≠ none ∧ takeover.stewardOf 1 = some takeover.self ∧ takeover.mirrorOn = false := by
  decide +kernel

/-- A job of the WRN, one block of two words. -/
def aJob (r : Req) : Job :=
  { req := r, blocks := [{ start := 0x100, beats := 2, off := 0, len := 8 }], got := [], markBad := false, retries := 0,
    answered := false, jsn := none, verify := false, differs := false }

theorem witness_PareneArbitrationAndReset_reset : (port id).pb[(1 : PbNo)].pins.sysrstLow = false ∧
    (port id).pb[(1 : PbNo)].cyc = none ∧ (port id).pb[(1 : PbNo)].jobs = [] ∧
    (port fun b => { b with jobs := [aJob (aWrn false)] }).pb[(1 : PbNo)].listens = true ∧
    (port fun b => { b with jobs := [aJob (aWrn false)] }).pb[(1 : PbNo)].pins.sysrstLow = false ∧
    (port fun b => { b with jobs := [aJob (aWrn false)] }).pb[(1 : PbNo)].disabling = false ∧
    (port fun b => { b with jobs := [aJob (aWrn false)] }).pb[(1 : PbNo)].jobs = [aJob (aWrn false)] ∧
    (aJob (aWrn false)).blocks ≠ [] ∧ (aJob (aWrn false)).verify = false ∧
    (port fun b => { b with jobs := [aJob (aWrn false)] }).pb[(1 : PbNo)].cyc = none := by decide +kernel

theorem linked_answers : (aJob (aWrn false)).req.org = .mx 0 linked.mxt[(0 : MxNo)].gen ∧
    linked.mxt[(0 : MxNo)].up = true ∧ linked.mxt[(0 : MxNo)].flushes = [] := by decide +kernel

theorem witness_openWrite (f : Pb → Pb) : (port f).openWrite (aJob (aWrn false)) 0 :=
  ⟨rfl, rfl, rfl, linked_answers.1, rfl, linked_answers.2.1, linked_answers.2.2⟩

theorem witness_PareneArbitrationAndReset_ext :
    (port fun b => { b with ext := .low }).pb[(1 : PbNo)].ext = .low ∧
    (port fun b => { b with ext := .wait }).pb[(1 : PbNo)].ext = .wait ∧
    (port fun b => { b with ext := .wait }).pb[(1 : PbNo)].enabled = true ∧
    (port fun b => { b with ext := .wait }).pb[(1 : PbNo)].disabling = false ∧
    (port fun b => { b with ext := .wait }).pb[(1 : PbNo)].phase = .normal := by decide +kernel

theorem witness_PareneCyclesMastered_grant : (port fun b => { b with br := true }).pb[(1 : PbNo)].atBoundary = true ∧
    (port fun b => { b with br := true }).pb[(1 : PbNo)].disabling = false ∧
    (port fun b => { b with br := true }).pb[(1 : PbNo)].br = true ∧
    (port fun b => { b with br := true }).pb[(1 : PbNo)].jobs.head?.any Job.midHold = false ∧
    (port fun b => { b with br := true }).iackFor 1 = none ∧ (port fun b => { b with br := true }).readyJob 1 = none := by
  decide +kernel

/-- The DIR 0 route of level 5 of port 1. -/
def iackRoute : Route := { mxport := 0, vector := 0, isLocal := false, addr := 0x3000 }

def irq : State := { (port fun b => { b with irqPend := 0x20 }) with routes := [(26, iackRoute)] }

theorem witness_PareneCyclesMastered_iack : irq.pb[(1 : PbNo)].atBoundary = true ∧ irq.pb[(1 : PbNo)].disabling = false ∧
    irq.pb[(1 : PbNo)].br = false ∧ irq.pb[(1 : PbNo)].jobs.head?.any Job.midHold = false ∧
    irq.iackFor 1 = some (5, iackRoute) := by decide +kernel

/-- A journalled job of entry 1, and the entry, its word empty or good. -/
def jJob : Job := { aJob (aWrn true) with jsn := some 1 }

def jentry (x : JState) (bad : Bool) : JEntry := { jent 1 x false with words := [if bad then emptyWord else constWord 3] }

def jport (x : JState) (bad : Bool) (f : Pb → Pb) : State := jrnl (port f) [jentry x bad]

theorem witness_PareneCyclesMastered_start :
    (port fun b => { b with jobs := [aJob (aWrn false)] }).pb[(1 : PbNo)].atBoundary = true ∧
    (port fun b => { b with jobs := [aJob (aWrn false)] }).pb[(1 : PbNo)].br = false ∧
    (port fun b => { b with jobs := [aJob (aWrn false)] }).iackFor 1 = none ∧
    (port fun b => { b with jobs := [aJob (aWrn false)] }).pb[(1 : PbNo)].jobs = aJob (aWrn false) :: [] ∧
    (port fun b => { b with jobs := [aJob (aWrn false)] }).pb[(1 : PbNo)].retryWait = false ∧
    ((aJob (aWrn false)).recut ((port id).fld .parene 1 7)).blocks ≠ [] ∧ (aJob (aWrn false)).got = [] ∧
    (aJob (aWrn false)).jsn = none := by decide +kernel

theorem witness_PareneCyclesMastered_journal : ∀ bad : Bool,
    (jport .recorded bad fun b => { b with jobs := [jJob] }).pb[(1 : PbNo)].atBoundary = true ∧
    (jport .recorded bad fun b => { b with jobs := [jJob] }).iackFor 1 = none ∧
    (jport .recorded bad fun b => { b with jobs := [jJob] }).pb[(1 : PbNo)].jobs = jJob :: [] ∧ jJob.jsn = some 1 ∧
    (jport .recorded bad fun b => { b with jobs := [jJob] }).entry 1 1 = some (jentry .recorded bad) ∧
    (jport .recorded bad fun b => { b with jobs := [jJob] }).entryBad (jentry .recorded bad) = bad ∧
    (jJob.recut ((jport .recorded bad id).fld .parene 1 7)).blocks ≠ [] ∧
    (jport .recorded bad fun b => { b with jobs := [jJob] }).group.fenced = false ∧
    (jport .recorded bad fun b => { b with jobs := [jJob] }).gateOpen 1 1 = true := by decide +kernel

/-- A cycle of the head job with `n` beats left. -/
def aCyc (n : Nat) : MCycle := { what := .job, aw := (0, 0), word := 0x100, left := n, holdWait := false, release := false, ending := none }

def beating (j : Job) (n : Nat) (b : Pb) : Pb :=
  { b with cyc := some (aCyc n), pins := { b.pins with dsLow := true, asLow := true }, jobs := [j] }

theorem witness_PareneCyclesMastered_beat : ∀ n ∈ ([1, 2] : List Nat),
    (port (beating (aJob (aWrn false)) n)).pb[(1 : PbNo)].cyc = some (aCyc n) ∧ (aCyc n).what = .job ∧
    (aCyc n).release = false ∧ (port (beating (aJob (aWrn false)) n)).pb[(1 : PbNo)].pins.dsLow = true ∧
    (port (beating (aJob (aWrn false)) n)).pb[(1 : PbNo)].releasing = false ∧
    (port (beating (aJob (aWrn false)) n)).pb[(1 : PbNo)].disabling = false ∧
    (port (beating (aJob (aWrn false)) n)).pb[(1 : PbNo)].jobs = aJob (aWrn false) :: [] ∧
    (aJob (aWrn false)).blocks = { start := 0x100, beats := 2, off := 0, len := 8 } :: [] ∧
    (aJob (aWrn false)).verify = false ∧ rqWrites (aJob (aWrn false)).req.kind = true ∧
    (aJob (aWrn false)).markBad = false := by decide +kernel

theorem witness_atBeat (n : Nat) :
    (port (beating (aJob (aWrn false)) n)).atBeat 1 (aCyc n) (aJob (aWrn false))
      { start := 0x100, beats := 2, off := 0, len := 8 } [] [] := by
  refine ⟨?_, rfl, rfl, ?_, ?_, ?_, ?_, rfl, rfl⟩ <;> rfl

theorem witness_PareneCyclesMastered_jbeat :
    (jport .running false (beating jJob 1)).pb[(1 : PbNo)].jobs = jJob :: [] ∧ rqWrites jJob.req.kind = true ∧
    jJob.jsn = some 1 ∧ (jport .running false (beating jJob 1)).entry 1 1 = some (jentry .running false) ∧
    (jentry .running false).state = .running := by decide +kernel

/-- A read's job. -/
def rdJob : Job := aJob { aRq (.rd, []) with win := aWin .inbound false }

theorem witness_PareneCyclesMastered_read :
    (port (beating rdJob 1)).pb[(1 : PbNo)].jobs = rdJob :: [] ∧ rdJob.req.kind = .rd ∧ rdJob.jsn = none ∧
    rdJob.req.org = .mx 0 (port (beating rdJob 1)).mxt[(0 : MxNo)].gen ∧ rqPosted rdJob.req.kind = false ∧
    (port (beating rdJob 1)).mxt[(0 : MxNo)].up = true ∧ (port (beating rdJob 1)).mxt[(0 : MxNo)].flushes = [] ∧
    (marksPass (port (beating rdJob 1)).pb[(1 : PbNo)].markSense 0x00000 = true ∨
      marksPass (port (beating rdJob 1)).pb[(1 : PbNo)].markSense 0x30000 = true) ∧
    (marksPass (port (beating rdJob 1)).pb[(1 : PbNo)].markSense 0x00000 = false ∨
      marksPass (port (beating rdJob 1)).pb[(1 : PbNo)].markSense 0x30000 = false) ∧
    rdJob.req.win.width ≠ .wide18 ∧ (port (beating rdJob 1)).pb[(1 : PbNo)].markCount = false := by decide +kernel

theorem witness_PareneCyclesMastered_retry : ∀ h : Bool,
    (port (beating (aJob (aWrn false)) 1)).pb[(1 : PbNo)].jobs = aJob (aWrn false) :: [] ∧
    (aJob (aWrn false)).retries < forced (port (beating (aJob (aWrn false)) 1)).pb[(1 : PbNo)].inForce (if h then 6 else 5) ∧
    forced (port (beating { aJob (aWrn false) with retries := 255 } 1)).pb[(1 : PbNo)].inForce (if h then 6 else 5) ≤ 255 ∧
    ({ aWin .inbound false with hold := h } : Win).hold = h := by decide +kernel

/-- An interrupt acknowledge cycle under way. -/
def iacking (r : Route) : State := port fun b =>
  { b with cyc := some { what := .iack 5 r, aw := (0, 0), word := 5, left := 1, holdWait := false, release := false, ending := none },
           pins := { b.pins with dsLow := true } }

theorem witness_PareneCyclesMastered_vector : ∀ l : Bool,
    (iacking { iackRoute with isLocal := l }).pb[(1 : PbNo)].cyc =
      some { what := .iack 5 { iackRoute with isLocal := l }, aw := (0, 0), word := 5, left := 1, holdWait := false,
             release := false, ending := none } ∧
    (iacking { iackRoute with isLocal := l }).hcb.phase ≠ .zeroised ∧
    (iacking { iackRoute with isLocal := l }).pb[(1 : PbNo)].pins.dsLow = true ∧
    (iacking { iackRoute with isLocal := l }).pb[(1 : PbNo)].releasing = false ∧
    (marksPass (iacking { iackRoute with isLocal := l }).pb[(1 : PbNo)].markSense 0x00000 = true ∨
      marksPass (iacking { iackRoute with isLocal := l }).pb[(1 : PbNo)].markSense 0x30000 = true) := by decide +kernel

/-- A cycle whose response lines are still to be released. -/
def releasing (e : Option CycOutcome) (h : Bool) : State :=
  port fun b => { b with cyc := some { aCyc 1 with release := true, ending := e, holdWait := h }, jobs := [aJob (aWrn false)] }

theorem witness_PareneCyclesMastered_release : ∀ x ∈ ([(some .ok, false), (none, true), (none, false)] :
      List (Option CycOutcome × Bool)),
    (releasing x.1 x.2).pb[(1 : PbNo)].cyc = some { aCyc 1 with release := true, ending := x.1, holdWait := x.2 } ∧
    (releasing x.1 x.2).pb[(1 : PbNo)].disabling = false ∧
    (releasing x.1 x.2).pb[(1 : PbNo)].jobs = aJob (aWrn false) :: [] := by decide +kernel

theorem witness_PareneCyclesMastered_wait :
    (port id).pb[(1 : PbNo)].cyc = none ∧
    (∀ c, (iacking iackRoute).pb[(1 : PbNo)].cyc = some c → c.holdWait = false) ∧
    (port fun b => { b with cyc := some { aCyc 1 with holdWait := true }, jobs := [aJob (aWrn false)] }).pb[(1 : PbNo)].cyc =
      some { aCyc 1 with holdWait := true } ∧
    (port fun b => { b with cyc := some { aCyc 1 with holdWait := true }, jobs := [aJob (aWrn false)] }).pb[(1 : PbNo)].jobs =
      aJob (aWrn false) :: [] := by decide +kernel

/-- A card's cycle as the port has decoded it. -/
def aCard (sp : BitVec 2) (wr ds : Bool) (w : Option (Nat × Win)) (m : CardMode) : CardCycle :=
  { space := sp, addr := 0x105, beats := 1, wr := wr, idx := 0, win := w, mode := m, data := [], dsLow := ds }

theorem witness_PareneCyclesMastered_timeout :
    (port fun b => { b with tgt := .data (aCard 0 false true none .access) }).pb[(1 : PbNo)].cyc = none ∧
    (port fun b => { b with tgt := .data (aCard 0 false true none .access) }).pb[(1 : PbNo)].observes = true ∧
    (port fun b => { b with tgt := .data (aCard 0 false true none .access) }).pb[(1 : PbNo)].pins.answering = false ∧
    (aCard 0 false true none .access).dsLow = true ∧
    (∀ x : Bool, (port fun b => { b with tgt := .stray x }).pb[(1 : PbNo)].tgt = .stray x ∧
      (port fun b => { b with tgt := .stray x }).pb[(1 : PbNo)].cyc = none ∧
      (port fun b => { b with tgt := .stray x }).pb[(1 : PbNo)].observes = true ∧
      (port fun b => { b with tgt := .stray x }).pb[(1 : PbNo)].pins.answering = false) := by decide +kernel

/-! ### A card's cycle -/

theorem witness_PareneCardCycles_strobe : (port id).pb[(1 : PbNo)].observes = true ∧ (port id).pb[(1 : PbNo)].cyc = none ∧
    (port id).pb[(1 : PbNo)].tgt = .idle ∧ (port fun b => { b with granted := true }).pb[(1 : PbNo)].granted = true ∧
    (port id).pb[(1 : PbNo)].granted = false ∧ (port id).pb[(1 : PbNo)].tenure = none ∧
    (port fun b => { b with tenure := some 1 }).pb[(1 : PbNo)].tenure = some 1 ∧
    (port fun b => { b with tenure := some 1 }).pb[(1 : PbNo)].tenOver = false ∧
    (port fun b => { b with tenOver := true }).pb[(1 : PbNo)].tenOver = true ∧
    254 + 1 ≤ (setf (port id) .parene 1 (key 1 2) 255).fld .parene 1 (key 1 2) ∧
    (setf (port id) .parene 1 (key 1 2) 255).fld .parene 1 (key 1 2) < 255 + 1 := by decide +kernel

theorem witness_PareneCardCycles_gap : ∀ x ∈ ([.first 0 false, .gap 0 false, .data (aCard 0 false false none .access), .stray true, .stray false] :
      List TgtState),
    (port fun b => { b with tgt := x }).pb[(1 : PbNo)].tgt = x ∧ (port fun b => { b with tgt := x }).pb[(1 : PbNo)].observes = true ∧
    (port fun b => { b with tgt := x }).pb[(1 : PbNo)].disabling = false ∧
    (port fun b => { b with tgt := x }).pb[(1 : PbNo)].abortNext = false ∧
    (port fun b => { b with tgt := x }).pb[(1 : PbNo)].releasing = false := by decide +kernel

/-- Port 1 after the first address word of a one-beat cycle, its window outbound. -/
def gapped (wr : Bool) : State :=
  { (port fun b => { b with tgt := .gap 0 wr }) with windows := [(3, aWin .outbound false)] }

theorem witness_PareneCardCycles_second :
    decodable 0 0x30100 = false ∧ decodable 0 0x105 = true ∧ (gapped false).cardWin 1 (awSpace 0) 0x905 = none ∧
    (gapped false).cardWin 1 (awSpace 0) (4096 * awAddr 0 + awAddr 0x105) = some (3, aWin .outbound false) ∧
    (gapped false).pb[(1 : PbNo)].acc = none ∧ (gapped false).pb[(1 : PbNo)].deferHold = [] ∧
    (gapped false).cardStops 1 false = false ∧ (gapped false).pb[(1 : PbNo)].ewaOut = [] ∧
    ((aWin .outbound false).cardRanges 0x105 ((aWin .outbound false).beatsIn 0x105 (awBeats 0))).length = 1 ∧
    (gapped false).freeTag (aWin .outbound false).mxport = some 0 ∧ (gapped false).eddyOut 1 < 64 := by decide +kernel

theorem witness_PareneCardCycles_stopped : ∀ wr : Bool,
    ({ member (gapped wr) with group := { (member (gapped wr)).group with fenced := true } } : State).cardStops 1 wr = true ∧
    (gapped wr).pb[(1 : PbNo)].tgt = .gap 0 wr := by decide +kernel

/-- Port 1 in a card's cycle, DS# still high. -/
def carded (c : CardCycle) (f : Pb → Pb) : State :=
  { (port fun b => f { b with tgt := .data c }) with windows := [(3, aWin .outbound false)] }

theorem witness_PareneCardCycles_strobes : ∀ x ∈ ([aCard 0 true false none .access, aCard 2 false false none .access,
      aCard 0 true false (some (3, aWin .outbound false)) .access,
      aCard 0 false false (some (3, aWin .outbound false)) .refuse,
      aCard 0 false false (some (3, aWin .outbound false)) (.retry true)] : List CardCycle),
    (carded x id).pb[(1 : PbNo)].observes = true ∧ (carded x id).pb[(1 : PbNo)].cyc = none ∧
    (carded x id).pb[(1 : PbNo)].tgt = .data x ∧ x.dsLow = false ∧ (carded x id).pb[(1 : PbNo)].abortNext = false ∧
    (x.win ≠ none → (aWin .outbound false).holds (x.addr + x.idx) = true) := by decide +kernel

theorem witness_PareneCardCycles_abort :
    (carded (aCard 0 true false none .access) fun b => { b with abortNext := true, tenure := some 1 }).pb[(1 : PbNo)].abortNext =
      true ∧
    (carded (aCard 2 false false none .access) fun b => { b with irqDrive := 0x20 }).pb[(1 : PbNo)].irqDrive.getLsbD (0x105 % 8) =
      true ∧
    (carded (aCard 2 false false none .access) id).pb[(1 : PbNo)].irqDrive.getLsbD (0x105 % 8) = false := by decide +kernel

/-- A card's write through an early-acknowledged window. -/
def eWin : Win := { aWin .outbound false with ewa := 2 }

def wcard (n : Nat) : CardCycle := { aCard 0 true false (some (3, eWin)) .access with beats := n }

theorem witness_PareneCardCycles_write :
    (wcard 2).idx + 1 ≠ eWin.beatsIn (wcard 2).addr (wcard 2).beats ∧
    (wcard 1).idx + 1 = eWin.beatsIn (wcard 1).addr (wcard 1).beats ∧ (carded (wcard 1) id).cardStops 1 true = false ∧
    (carded (wcard 1) id).pb[(1 : PbNo)].acc = none ∧ (carded (wcard 1) id).pb[(1 : PbNo)].ewaOut = [] ∧
    (carded (wcard 1) id).pb[(1 : PbNo)].pins.answering = false ∧ eWin.early = true ∧
    (wcard 1).data.length = (wcard 1).idx ∧ (carded (wcard 1) id).freeTag eWin.mxport ≠ none ∧
    (carded (wcard 1) id).vc0Room eWin.mxport = true ∧
    (eWin.cardRanges (wcard 1).addr (eWin.beatsIn (wcard 1).addr (wcard 1).beats)).length = 1 ∧
    ({ member (carded (wcard 1) id) with group := { (member (carded (wcard 1) id)).group with fenced := true } } : State).cardStops
      1 true = true ∧
    (marksPass (carded (wcard 1) id).pb[(1 : PbNo)].markSense 0x00000 = true ∨
      marksPass (carded (wcard 1) id).pb[(1 : PbNo)].markSense 0x30000 = true) ∧
    (marksPass (carded (wcard 1) id).pb[(1 : PbNo)].markSense 0x00000 = false ∨
      marksPass (carded (wcard 1) id).pb[(1 : PbNo)].markSense 0x30000 = false) ∧
    eWin.width ≠ .wide18 ∧ (carded (wcard 1) id).pb[(1 : PbNo)].markCount = false := by decide +kernel

/-- A window of 18-bit words. -/
def wideWin : Win := { aWin .outbound false with width := .wide18 }

/-- A card's one-beat write, answered RETRY, whose response has come since; its last beat is repeated. -/
def rewritten : CardAccess :=
  { id := 1, space := 0, addr := 0x105, beats := 1, wr := true, data := [0x1234], wno := 3, win := wideWin,
    reqs := [{ addr := 0x1000A, len := 2, words := [], pair := false, issued := true, done := true,
               parts := [{ off := 0, len := 2, code := 0, hint := 0, words := [] }] }], delayed := true }

def wagain : CardCycle := { aCard 0 true false (some (3, wideWin)) .access with data := [0x1234] }

theorem witness_PareneCardCycles_again :
    wagain.data.length = wagain.idx + 1 ∧ wagain.idx + 1 = wideWin.beatsIn wagain.addr wagain.beats ∧
    (carded wagain fun b => { b with acc := some rewritten }).pb[(1 : PbNo)].acc = some rewritten ∧
    rewritten.delayed = true ∧ rewritten.repeated wagain.space wagain.addr wagain.beats true = true ∧
    rewritten.heldWord wagain.beats wagain.idx = some 0x1234 ∧
    (carded wagain fun b => { b with acc := some rewritten }).pb[(1 : PbNo)].deferHold = [] ∧
    (carded wagain fun b => { b with acc := some rewritten }).pb[(1 : PbNo)].pins.answering = false ∧
    wideWin.holds (wagain.addr + wagain.idx) = true ∧ wideWin.width = .wide18 := by decide +kernel

theorem witness_PareneCardCycles_again_done : rewritten.writeAns = .done none := rfl

/-- A card's read whose response has come. -/
def answered : CardAccess :=
  { id := 1, space := 0, addr := 0x105, beats := 1, wr := false, data := [], wno := 3, win := aWin .outbound false,
    reqs := [{ addr := 0x10028, len := 8, words := [], pair := false, issued := true, done := true,
               parts := [{ off := 0, len := 8, code := 0, hint := 0, words := [constWord 0x1234] }] }], delayed := true }

def rcard : CardCycle := aCard 0 false false (some (3, aWin .outbound false)) .collect

theorem witness_PareneCardCycles_read : (carded rcard fun b => { b with acc := some answered }).pb[(1 : PbNo)].acc =
      some answered ∧ answered.wr = false ∧
    (carded rcard fun b => { b with acc := some answered }).pb[(1 : PbNo)].pins.answering = false ∧
    (match answered.readAns (carded rcard id).pb[(1 : PbNo)].markSense (carded rcard id).pb[(1 : PbNo)].markZero rcard.idx with
      | .done (some x) => x.extractLsb' 0 16 == 0x1234
      | _ => false) = true ∧
    (∀ r ∈ answered.reqs, r.done = true) ∧ answered.delayed = true ∧ answered.errsAt rcard.idx = [] := by decide +kernel

theorem witness_PareneCardCycles_expire :
    (carded { rcard with dsLow := true } fun b => { b with acc := some { answered with delayed := false } }).pb[(1 : PbNo)].tgt =
      .data { rcard with dsLow := true } ∧
    (carded { rcard with dsLow := true } fun b => { b with acc := some { answered with delayed := false } }).pb[(1 : PbNo)].acc =
      some { answered with delayed := false } ∧
    ({ rcard with dsLow := true } : CardCycle).win ≠ none ∧ ({ answered with delayed := false } : CardAccess).delayed = false ∧
    (port fun b => { b with deferHold := [⟨5, 0, 1, 1, false, 1⟩, ⟨6, 0, 1, 1, true, 1⟩] }).pb[(1 : PbNo)].deferHold =
      ⟨5, 0, 1, 1, false, 1⟩ :: [⟨6, 0, 1, 1, true, 1⟩] ∧
    (∀ e ∈ ([⟨6, 0, 1, 1, true, 1⟩] : List DeferHold), 5 ≤ e.til) := by decide +kernel

theorem witness_PareneCardCycles_iack :
    (carded (aCard 2 false true none .access) fun b => { b with pins := { b.pins with ackLow := true } }).pb[(1 : PbNo)].pins.ackLow =
      true ∧
    (carded (aCard 2 false true none .access) id).pb[(1 : PbNo)].tgt = .data (aCard 2 false true none .access) := by
  decide +kernel

/-! ### Bridge groups -/

/-- Member 0 of three with all in its view 7, port 0 in link up, member 1 known and alive. -/
def grouped : State :=
  let s := member linked
  let p := s.group.peers[(1 : Fin 4)]
  { s with group := { s.group with
      peers := s.group.peers.set 1 { p with agrees := true, alive := true, confAt := some 0, lastEpoch := 5 } } }

/-- A GRP packet of member 1 to member 0 in epoch `e`. -/
def grp (e : BitVec 32) (b : GrpBody) : GrpPkt :=
  { h := { hdr 4 7 8 with dst := 9 }, addr := 0x4000, odom := 0, otoken := 0, sender := 1, dest := 0, epoch := e, body := b,
    dup := false }

def aHello : HelloBody :=
  { digest := 0, compat := 0, rev := 1, ports := 15, prio := 0, n1 := 2, version := 0, cands := 0, takeUnm := false,
    verMatch := 0, group := 7 }

def aHeart : HeartBody := { seen := 3, view := 7, gstate := 2, stewards := 0, svalid := 0, tstate := 0, ackEpoch := 5 }

theorem test_wf_grp : (Instr.hello 0 (grp 5 .ack)).wellFormed = false ∧ (Instr.ack 0 (grp 5 .leave)).wellFormed = false ∧
    (Instr.ack 0 (grp 5 .ack)).wellFormed = true := by decide +kernel

theorem witness_takesGrp : ∀ b ∈ ([.hello aHello, .heartbeat aHeart, .propose 3, .ack, .commit 3, .tprobe 1 2 3, .leave,
      .fwddata [1], .fwdrsp 0 0 0 8 [], .jrecx [1], .jout 1 1 1, .jack 1 1 true] : List GrpBody),
    grouped.takesGrp 0 (grp 5 b) = true := by decide +kernel

theorem witness_GroupMembership_hello : (1 : Fin 4) = (grp 5 (.hello aHello)).sender.toFin ∧ (1 : Fin 4) ≠ grouped.self ∧
    ({ grouped with group := { grouped.group with view := 1 } } : State).claimsTaken 1 5 aHello = false ∧
    ({ grouped with group := { grouped.group with view := 1 } } : State).takesGrp 0 (grp 5 (.hello aHello)) = true := by
  decide +kernel

theorem witness_GroupMembership_heartbeat : grouped.group.peers[(1 : Fin 4)].agrees = true ∧
    (member linked).group.peers[(1 : Fin 4)].agrees = false ∧
    (member linked).takesGrp 0 (grp 5 (.heartbeat aHeart)) = true := by decide +kernel

theorem witness_GroupMembership_propose : grouped.group.ackEpoch.toNat < (grp 6 (.propose 3)).epoch.toNat ∧
    (3 : BitVec 4).getLsbD grouped.self.val = true ∧ (3 : BitVec 4).getLsbD (grp 6 (.propose 3)).sender.toNat = true ∧
    (3 : BitVec 4) &&& ~~~grouped.seen = 0 ∧ (7 : BitVec 4) &&& ~~~grouped.seen ≠ 0 ∧
    grouped.takesGrp 0 (grp 6 (.propose 3)) = true := by decide +kernel

/-- The same with a proposal of the mask in progress. -/
def proposing (m : BitVec 4) : State :=
  { grouped with group := { grouped.group with proposal := some { epoch := 6, mask := m, acks := 1 } } }

theorem witness_GroupMembership_ack : ∀ b : Bool,
    (proposing (if b then 3 else 7)).takesGrp 0 (grp 6 .ack) = true ∧
    (proposing (if b then 3 else 7)).group.proposal = some { epoch := 6, mask := if b then 3 else 7, acks := 1 } ∧
    ((if b then 3 else 7 : BitVec 4) &&& ~~~(setBit (1 : BitVec 4) (grp 6 .ack).sender.toNat true) = 0 ↔ b = true) := by
  decide +kernel

/-- The same having answered the proposal of mask 3. -/
def acked : State := { grouped with group := { grouped.group with ackEpoch := 6, ackMask := 3 } }

theorem witness_GroupMembership_commit : acked.takesGrp 0 (grp 6 (.commit 3)) = true ∧ (6 : BitVec 32) = acked.group.ackEpoch ∧
    (3 : BitVec 4) = acked.group.ackMask ∧ (6 : BitVec 32) ≠ acked.group.epoch ∧ (3 : BitVec 4) = acked.seen ∧
    (5 : BitVec 32) ≠ acked.group.ackEpoch := by decide +kernel

theorem witness_GroupMembership_timers : grouped.clocked = true ∧ grouped.group.joined = true ∧
    grouped.power.entering = none ∧
    ({ grouped with group := { grouped.group with admitted := false } } : State).group.admitted = false ∧
    grouped.mxt[(0 : MxNo)].up = true ∧ (1 : Fin 4) ≠ grouped.self := by decide +kernel

theorem witness_GroupMembership_view :
    (proposing 3).seen ≠ (proposing 3).group.view ∧ (proposing 3).topOf (members (proposing 3).seen) = some (proposing 3).self ∧
    (proposing 3).seen &&& ~~~(setBit 0 (proposing 3).self.val true) ≠ 0 ∧
    ({ proposing 3 with group := { (proposing 3).group with view := 3 } } : State).seen = 3 ∧
    ({ proposing 3 with group := { (proposing 3).group with view := 3 } } : State).leftView = false ∧
    ({ acked with group := { acked.group with view := 3 } } : State).leftView = true := by decide +kernel

theorem witness_GroupMembership_reference : grouped.isReference = true := by decide +kernel

/-- A member 0 of priority below member 1's, which is the reference; both in the view. -/
def follower : State :=
  let p := grouped.group.peers[(1 : Fin 4)]
  { grouped with
    group := { grouped.group with view := 3, peers := grouped.group.peers.set 1 { p with locked := true, agrees := true } },
    time := { grouped.time with reference := 1 } }

theorem witness_GroupMembership_follower : follower.takesGrp 0 (grp 5 (.tprobe 1 2 3)) = true ∧
    follower.referenceOf = some 1 ∧ (1 : Fin 4) ≠ follower.self ∧ follower.time.reference = BitVec.ofNat 2 1 ∧
    follower.seen = follower.group.view ∧ follower.clocked = true ∧ follower.group.joined = true ∧
    (∀ o ∈ (offsetOf 1 2 3 follower.time.now :: follower.time.offsets).take 4, o.natAbs ≤ 1000) ∧
    forced follower.time.inForce 0 ≠ 2 := by decide +kernel

/-- Port 1 in a takeover, this member its steward or not. -/
def waitEnd (m : BitVec 2) : State :=
  let s := grouped.modPb 1 fun b => { b with enabled := false, recorded := true, phase := .off }
  { s with group := { s.group with stewards := s.group.stewards.set 1 (some m), takeover := s.group.takeover.set 1 (some 5) } }

theorem witness_GroupMembership_takeover : ∀ m : Fin 2,
    (waitEnd (BitVec.ofNat 2 m.val)).group.takeover[(1 : PbNo)] ≠ none ∧ (waitEnd (BitVec.ofNat 2 m.val)).clocked = true ∧
    ((waitEnd (BitVec.ofNat 2 m.val)).stewardOf 1 = some (waitEnd (BitVec.ofNat 2 m.val)).self ↔ m = 0) ∧
    (waitEnd (BitVec.ofNat 2 m.val)).mirrorOn = false ∧ (waitEnd (BitVec.ofNat 2 m.val)).pb[(1 : PbNo)].recorded = true ∧
    (waitEnd (BitVec.ofNat 2 m.val)).pb[(1 : PbNo)].releasing = false := by decide +kernel

/-- This member the steward of port 1. -/
def steward : State := { grouped with group := { grouped.group with stewards := grouped.group.stewards.set 1 (some 0) } }

/-- A forwarded request with its data. -/
def fwd (k : RqKind) (l : List Word) : GrpBody := .fwdreq k (aReq l)

theorem witness_GroupForwarding_unknown :
    ({ steward with group := { steward.group with view := 1 } } : State).takesGrp 0 (grp 5 (fwd .rd [])) = true ∧
    ({ steward with group := { steward.group with view := 1 } } : State).group.view.getLsbD 1 = false := by decide +kernel

/-- Without a rule for the source. -/
def unruled : State := setf { steward with rules := [] } .levee 0 0 1

theorem witness_GroupForwarding_bodies : ∀ b ∈ ([fwd .rd [], fwd .wrn [constWord 6], fwd .wrn [], .fwdreq .int anInt,
      .fwdrsp 3 0 0 8 []] : List GrpBody), fixedBody (grp 5 b) = b := by decide +kernel

theorem witness_GroupForwarding_denied : unruled.takesGrp 0 (grp 5 (fwd .rd [])) = true ∧
    unruled.group.view.getLsbD (grp 5 (fwd .rd [])).sender.toNat = true ∧
    unruled.levCheck none .rd 5 [] = .deny 5 := by decide +kernel

/-- The forwarded request at the steward. -/
def fwdReq (x : RqKind × List Word) : Req :=
  { aRq x with id := steward.nextId, org := .peer 1, tag := 4 }

theorem witness_GroupForwarding_served : ∀ x ∈ reqRows, steward.takesGrp 0 (grp 5 (fwd x.1 x.2)) = true ∧
    steward.group.view.getLsbD (grp 5 (fwd x.1 x.2)).sender.toNat = true ∧
    (rqWrites x.1 = true → (spanned (aReq x.2).addr.toNat (aReq x.2).h.len.toNat).length ≤ (aReq x.2).data.length) ∧
    steward.levCheck none x.1 5 (aReq x.2).data = .pass 3 x.2 ∧
    steward.lookup 0x10000 8 = some (3, aWin .inbound false) ∧ steward.stage4 1 (fwdReq x).fromPeer = .pass ∧
    steward.classOf (fwdReq x) = some (0, WeirClass.initial) ∧ 1000 * steward.cost (fwdReq x) ≤ WeirClass.initial.avail := by
  decide +kernel

theorem witness_GroupForwarding_int : steward.takesGrp 0 (grp 5 (.fwdreq .int anInt)) = true ∧ anInt.data ≠ [] ∧
    steward.routeFor anInt.addr = some (1, 5, { mxport := 0, vector := 0, isLocal := false, addr := 0x2000 }) ∧
    steward.stewardOf 1 = some steward.self ∧ steward.group.fenced = false ∧
    steward.takesGrp 0 (grp 5 (fwd .wrn [])) = true ∧
    (aReq []).data.length < (spanned (aReq []).addr.toNat (aReq []).h.len.toNat).length := by decide +kernel

/-- A FWDREQ that waits for its data: of 8 bytes, or of 16. -/
def fwdIn (n : BitVec 9) : FwdIn := { sender := 1, tag := 4, kind := .wrn, pkt := { aReq [] with h := hdr 4 5 n } }

def collecting (n : BitVec 9) : State := { unruled with group := { unruled.group with fwdIn := [fwdIn n] } }

theorem witness_GroupForwarding_data : (collecting 16).takesGrp 0 (grp 5 (.fwddata [1])) = true ∧
    (collecting 16).group.fwdIn = [fwdIn 16] ∧ (fwdIn 16).sender = (grp 5 (.fwddata [1])).sender.toFin ∧
    (fwdIn 16).tag = (grp 5 (.fwddata [1])).h.tag ∧ rqWrites (fwdIn 16).kind = true ∧
    ((fwdIn 16).pkt.data ++ [1]).length < (spanned (fwdIn 16).pkt.addr.toNat (fwdIn 16).pkt.h.len.toNat).length ∧
    (spanned (fwdIn 8).pkt.addr.toNat (fwdIn 8).pkt.h.len.toNat).length ≤ ((fwdIn 8).pkt.data ++ [1]).length ∧
    (collecting 8).levCheck none .wrn 5 [1] = .deny 5 := by decide +kernel

/-- A request forwarded to a steward. -/
def aFwd : Forward := { rid := 4, req := aRq (.rd, []), parts := [] }

def forwarding : State := { grouped with group := { grouped.group with forwards := [aFwd] } }

theorem witness_GroupForwarding_rsp : forwarding.takesGrp 0 (grp 5 (.fwdrsp 3 0 0 8 [])) = true ∧
    ridTag aFwd.rid = (grp 5 (.fwdrsp 3 0 0 8 [])).h.tag ∧ aFwd.parts = [] ∧ (8 : BitVec 9).toNat = aFwd.req.len ∧
    aFwd.req.org = .mx 0 forwarding.mxt[(0 : MxNo)].gen ∧ rqPosted aFwd.req.kind = false ∧
    forwarding.mxt[(0 : MxNo)].up = true ∧ forwarding.mxt[(0 : MxNo)].flushes = [] ∧
    (∀ q ∈ grouped.group.forwards, ridTag q.rid ≠ 4) := by decide +kernel

/-- A record of JSN 1 of port 1 with `n` words, `k` of them in the packet. -/
def jrecOf (n : Data) (l : List Word) : JrecIn :=
  { sender := 1, eh0 := 1 ||| (1 <<< 48) ||| ((n - 1) <<< 52), eh1 := 0x100, eh2 := 5, eh3 := 9, eh4 := 0, words := l }

def jrecBody (q : JrecIn) : GrpBody := .jrec q.eh0 q.eh1 q.eh2 q.eh3 q.eh4 q.words

/-- A candidate of port 1 with the journal on, of `n` MiB. -/
def mirror (n : Data) : State := setf (setf grouped .group 0 (key 1 1) 7) .oxbow 0 1 n

/-- The entry that a record of one word becomes. -/
def jrecEntry (s : State) : JEntry := (jrecOf 1 [1]).entry (s.takeLines 1)

theorem witness_GroupForwarding_jrec : (mirror 1).takesGrp 0 (grp 5 (jrecBody (jrecOf 2 [1]))) = true ∧
    (jrecOf 2 [1]).words.length < (jrecOf 2 [1]).count ∧ (jrecOf 1 [1]).count ≤ (jrecOf 1 [1]).words.length ∧
    (mirror 1).takesGrp 0 (grp 5 (jrecBody (jrecOf 1 [1]))) = true ∧
    (mirror 1).group.view.getLsbD (1 : BitVec 2).toFin.val = true ∧
    ((mirror 1).candidates (jrecEntry (mirror 1)).port).getLsbD (mirror 1).self.val = true ∧
    (mirror 1).entry (jrecEntry (mirror 1)).port (jrecEntry (mirror 1)).jsn = none ∧ (mirror 1).journalOn = true ∧
    linesFor (jrecOf 1 [1]).words.length ≤ (mirror 1).freeLines ∧
    ((mirror 1).mirrorReqr (jrecEntry (mirror 1))).isSome = true ∧ (mirror 1).hcb.phase ≠ .zeroised ∧
    fixedBody (grp 5 (jrecBody (jrecOf 1 [1]))) = jrecBody (jrecOf 1 [1]) := by decide +kernel

/-- The record held already, and a journal that is off. -/
theorem witness_GroupForwarding_norec :
    (jrnl (mirror 1) [jent 1 .recorded true]).entry (jrecEntry (jrnl (mirror 1) [jent 1 .recorded true])).port
      (jrecEntry (jrnl (mirror 1) [jent 1 .recorded true])).jsn ≠ none ∧
    ((jrnl (mirror 1) [jent 1 .recorded true]).candidates 1).getLsbD 0 = true ∧ (mirror 0).journalOn = false ∧
    (mirror 0).freeLines < linesFor (jrecOf 1 [1]).words.length ∧
    (mirror 0).entry (jrecEntry (mirror 0)).port (jrecEntry (mirror 0)).jsn = none ∧
    ((mirror 0).candidates (jrecEntry (mirror 0)).port).getLsbD (mirror 0).self.val = true := by decide +kernel

/-- The same with a record of `n` words of which one has come. -/
def recording (n : Data) : State := { mirror 1 with group := { (mirror 1).group with jrecIn := [jrecOf n [1]] } }

theorem witness_GroupForwarding_jrecx : ∀ n ∈ ([2, 3] : List Nat),
    (recording (BitVec.ofNat 64 n)).takesGrp 0 (grp 5 (.jrecx [2])) = true ∧ fixedBody (grp 5 (.jrecx [2])) = .jrecx [2] ∧
    (recording (BitVec.ofNat 64 n)).group.jrecIn = [jrecOf (BitVec.ofNat 64 n) [1]] ∧
    (jrecOf (BitVec.ofNat 64 n) [1]).sender = (grp 5 (.jrecx [2])).sender.toFin ∧
    ((jrecOf (BitVec.ofNat 64 n) [1, 2]).count ≤ (jrecOf (BitVec.ofNat 64 n) [1, 2]).words.length ↔ n = 2) ∧
    ((recording (BitVec.ofNat 64 n)).mirrorReqr
      ((jrecOf (BitVec.ofNat 64 n) [1, 2]).entry ((recording (BitVec.ofNat 64 n)).takeLines 2))).isSome = true ∧
    (recording (BitVec.ofNat 64 n)).entry 1 1 = none ∧ linesFor 2 ≤ (recording (BitVec.ofNat 64 n)).freeLines := by decide +kernel

theorem witness_GroupForwarding_jout : ∀ m : Bool,
    (jrnl grouped [jent 1 .recorded m]).takesGrp 0 (grp 5 (.jout 1 1 1)) = true ∧
    (jrnl grouped [jent 1 .recorded m]).takesGrp 0 (grp 5 (.jack 1 1 true)) = true ∧
    (jrnl grouped [jent 1 .recorded m]).entry (1 : BitVec 2).toFin (1 : BitVec 48).toNat = some (jent 1 .recorded m) ∧
    (jent 1 .recorded m).mirrored = m := by decide +kernel

/-! ### The host, power and security -/

/-- `up` in a phase. -/
def inPhase (p : Phase) : State := { up with hcb := { up.hcb with phase := p } }

theorem witness_HostAndLoader_phases : ∀ p ∈ ([.loader, .failed, .receiving, .verifying, .run] : List Phase),
    (inPhase p).hostServes = true ∧ (inPhase p).hcb.phase = p ∧ (inPhase p).hcb.otpStat ≠ 1 ∧
    (inPhase p).hcb.phase ≠ .zeroised := by decide +kernel

/-- Phase RECEIVING with a stream of `n` bytes, or a clear in progress with `n` bytes of an image of 8,192 waiting. -/
def taking (c : Bool) (n : Nat) : State :=
  { inPhase .receiving with loader := { (inPhase .receiving).loader with
      clearing := c, stream := if c then [] else List.replicate n 0,
      fifo := if c then (List.replicate 17 0 ++ (0x20 : Byte) :: List.replicate 4080 0).take n else [] } }

theorem witness_HostAndLoader_loadfifo : (taking true 0).hostServes = true ∧ (taking true 0).hcb.phase = .receiving ∧
    (taking true 0).loader.clearing = true ∧
    (∀ n ∈ ([127, 128, 4095, 4096] : List Nat), (taking true n).loader.fifo.length = n) ∧
    (([0] : List Byte).take (max 128 (imgLength ((taking true 4095).loader.fifo ++ [0])) - 4095)).length = 1 ∧
    (([0] : List Byte).take (max 128 (imgLength ((taking true 4096).loader.fifo ++ [0])) - 4096)).length = 1 ∧
    (taking false 126).loader.clearing = false ∧
    (taking false 126).loader.stream.length + 1 < 128 ∧ (taking false 127).loader.stream.length = 127 := by decide +kernel

/-- `up` with the mailboxes at the given contents. -/
def mailed (i : List Data) (o : List Word) : State := { up with hcb := { up.hcb with mbIn := i, mbOut := o } }

theorem witness_HostAndLoader_mail : (mailed (List.replicate 15 0) []).hcb.mbIn.length < 16 ∧
    16 ≤ (mailed (List.replicate 16 0) []).hcb.mbIn.length ∧ (mailed [] [5]).hcb.mbOut = 5 :: [] ∧
    (mailed [] []).hcb.mbOut = [] ∧ (mailed [] [5]).hostServes = true ∧ up.part = .gx7204 ∧ up.rev = .b := by decide +kernel

theorem witness_HostAndLoader_wait : ∀ (t : Thread) (x : Word), ((mailed [] [5]).thr t).wait ≠ .mbwr x := by
  have h : ∀ t : Thread, ((mailed [] [5]).thr t).wait = .none := by decide +kernel
  intro t x e
  exact absurd ((h t).symm.trans e) (by simp)

theorem witness_HostAndLoader_offset : ∀ o ∈ ([0x0000, 0x00F8, 0x0140, 0xFFF8] : List Nat),
    (BitVec.ofNat 16 o).toNat % 8 = 0 ∧ BitVec.ofNat 16 o ≠ 0x0010 ∧ BitVec.ofNat 16 o ≠ 0x0090 ∧
    ((BitVec.ofNat 16 o).toNat < 0x0100 ∨ 0x0140 ≤ (BitVec.ofNat 16 o).toNat) := by decide +kernel

/-- A record of a running image without pages. -/
def record : Accepted :=
  { version := 1, secver := 1, signer := 0, digest := BitVec.ofNat 384 (shaNat []), entries := [0], handlers := [noHandler], threads := 1, pages := [],
    pageHash := BitVec.ofNat 384 (shaNat []), config := none }

/-- A phase in a warm or cold start. -/
def starting (p : Phase) (w : Bool) (r : Option Accepted) : State :=
  { inPhase p with power := { up.power with warm := w }, loader := { up.loader with record := r } }

theorem witness_HostAndLoader_boot : ∀ w : Bool, (starting .boot w none).hcb.phase = .boot ∧
    (starting .boot w none).power.held = false ∧ (starting .boot w none).power.warm = w ∧
    (starting .verifying w none).hcb.phase = .verifying ∧ (starting .verifying w none).power.warm = w := by decide +kernel

theorem witness_HostAndLoader_warm : (starting .verifying true (some record)).loader.record = some record ∧
    (starting .verifying true (some record)).recordOk record = true ∧
    (starting .verifying true none).loader.record = none := by decide +kernel

theorem witness_HostAndLoader_clear : (taking true 0).loader.clearing = true ∧ (taking true 0).loader.fifo = [] ∧
    ({ inPhase .failed with loader := { up.loader with clearing := true } } : State).hcb.phase = .failed := by decide +kernel

/-- Run with an entry into a mode in progress, or none. -/
def entering (m : Option PMode) : State := { up with power := { up.power with entering := m } }

theorem witness_PowerAndReset_requests : up.hostServes = true ∧ up.hcb.phase ≠ .zeroised ∧ up.power.entering = none ∧
    up.journal.entries = [] ∧ (jrnl up [jent 1 .recorded false]).journal.entries ≠ [] ∧
    (∀ g : PbNo, up.pb[g].phase = .off) ∧ (entering (some .doze)).hostServes = true ∧
    (entering (some .doze)).power.entering ≠ none := by decide +kernel

/-- A low-power mode with every wake source enabled. -/
def asleep (m : PMode) : State :=
  { up with power := { up.power with mode := m, wakeCfg := if m = .doze then 10 else 14, crystal := true, wakeAlarm := 0 },
            hcb := { up.hcb with phase := if m = .doze then .doze else .boot } }

theorem witness_PowerAndReset_doze : (asleep .doze).power.mode = .doze ∧ (asleep .doze).power.held = false ∧
    (asleep .doze).power.aonHeld = false ∧ (asleep .doze).power.entering = none ∧
    (asleep .doze).power.wakeCfg.getLsbD 2 = false ∧ (asleep .doze).hcb.phase = .doze ∧ (asleep .doze).gauge.visit = none ∧
    (setf (visiting 5 0) .gauge 0 0 4).gauge.visit = some 2 ∧ ((setf (visiting 5 0) .gauge 0 0 4).fld .gauge 0 0).testBit 2 = true ∧
    (asleep .doze).power.wakeCfg.getLsbD 3 = true ∧ (asleep .doze).lanes[lanePort 0].powered = true ∧
    (entering (some .doze)).power.entering = some .doze := by decide +kernel

theorem witness_PowerAndReset_entry : ∀ m ∈ ([.doze, .retain, .hibernate] : List PMode),
    (entering (some m)).entryDone = true ∧ (entering (some m)).power.wakeSeen = none ∧
    (entering (some m)).power.entering = some m ∧ (∀ p : MxNo, (entering (some m)).mxt[p].reqs = []) := by decide +kernel

theorem witness_PowerAndReset_wake : ∀ m ∈ ([.retain, .hibernate] : List PMode), (asleep m).power.entering = none ∧
    (asleep m).power.wakeCfg.getLsbD 1 = true ∧ (asleep m).power.wakeCfg.getLsbD 2 = true ∧ (asleep m).power.mode = m ∧
    (asleep m).power.wakeAlarm.toNat ≤ (asleep m).time.now.toNat ∧ (asleep m).power.crystal = true ∧
    up.power.mode = .run ∧ up.power.wakeCfg.getLsbD 1 = false ∧ (0 : Data).toNat < (1 : Data).toNat ∧
    ({ asleep m with power := { (asleep m).power with crystal := false } } : State).power.mode = m := by decide +kernel

/-- The main reset held. -/
def held : State := { up with power := { up.power with held := true } }

theorem witness_PowerAndReset_resets : up.power.aonHeld = false ∧ held.power.held = true ∧ held.power.aonHeld = false ∧
    held.hasMx 0 = true ∧ held.power.laneOff.getLsbD 0 = false := by decide +kernel

/-- The fuses that make THERM zeroise blown, or not. -/
def fused (m : BitVec 5) (l : Lifecycle) : State :=
  { up with sec := { up.sec with otp := { up.sec.otp with tamperResp := m, life := l } } }

theorem witness_SecurityUnit_tamper : up.power.aonHeld = false ∧ up.power.held = false ∧ up.power.mode = .run ∧
    up.sec.otp.zeroises .therm = false ∧ (fused 31 .field).sec.otp.zeroises .therm = true ∧
    (fused 31 .field).hcb.phase ≠ .zeroised ∧ held.power.held = true ∧ held.power.aonHeld = false := by decide +kernel

/-- A debug request under verification. -/
def debugging : State :=
  { up with sec := { up.sec with challenge := some 1, dbgReq := some { level := 2, key := ⟨0, 0⟩, r := 1, sg := 1, challenge := 1 } } }

theorem witness_SecurityUnit_debug : up.secLive = true ∧ up.sec.otp.life ≠ .retired ∧
    up.sec.holdTil ≤ up.time.now.toNat ∧ ({ up with sec := { up.sec with holdTil := 1 } } : State).time.now.toNat < 1 ∧
    (fused 0 .retired).sec.otp.life = .retired ∧ (fused 0 .retired).secLive = true ∧ debugging.secLive = true ∧
    debugging.sec.challenge = some 1 ∧ up.sec.challenge = none ∧ debugging.sec.dbgReq.isSome = true ∧ up.tapOn = true := by
  decide +kernel

/-- The bytes of a TGTP command that raises SECVERMIN to 5, in the buffer. -/
def fusing : State :=
  { up with hcb := { up.hcb with otpStat := 1,
                                 otpBuf := [(0, 0x47), (1, 0x4F), (2, 0x54), (3, 0x50), (4, 3), (8, 5)] } }

theorem witness_SecurityUnit_otp : fusing.hcb.otpStat = 1 ∧ fusing.hcb.phase ≠ .zeroised ∧
    fusing.sec.otp.life = .provision ∧ leAt fusing.otpBytes 0 4 = 0x50544F47 ∧ zerosAt fusing.otpBytes 6 2 = true ∧
    leAt fusing.otpBytes 5 1 < 4 ∧ leAt fusing.otpBytes 4 1 = 3 ∧ fusing.sec.otp.secVerMin < leAt fusing.otpBytes 8 4 ∧
    leAt fusing.otpBytes 8 4 ≤ 64 := by decide +kernel

/-! ### The whole machine -/

theorem witness_StepTakesTheFront : ({ up with pending := [.quotaRefill, .helloTimer] } : State).pending =
      .quotaRefill :: [.helloTimer] ∧ up.pending = [] ∧ up.power.aonHeld = false ∧ up.power.mode = .run ∧
    up.time.steer = 0 ∧ up.power.entering = none ∧ up.queuesEmpty = true ∧
    (∀ p : MxNo, ∀ f ∈ up.mxt[p].flushes, f.wrp = none) ∧
    ({ up with power := { up.power with aonHeld := true } } : State).power.aonHeld = true ∧
    (∀ m ∈ ([.doze, .retain, .hibernate] : List PMode), (asleep m).power.mode = m ∧ (asleep m).power.aonHeld = false ∧
      (asleep m).pending = [] ∧ (asleep m).power.crystal = true) := by decide +kernel

theorem witness_RiffleAtReset : up.power.aonHeld = false ∧ up.hostServes = true ∧ (asleep .retain).power.entering = none ∧
    (asleep .retain).power.mode = .retain ∧ (asleep .hibernate).power.mode = .hibernate := by decide +kernel

theorem witness_MergedTags : (0x21 : Byte) ∈ ([0x21, 0] : List Byte) ∧ (0 : Byte) ∈ ([0x21, 0] : List Byte) ∧
    ([0x21, 0] : List Byte) ≠ [] := by decide +kernel

/-- A thread's words of origins 3 and 5 merge to origin 15 and the lower trust (R25). -/
theorem test_merge : mergeTag (mkTag 3 2 true false) (mkTag 5 1 true true) = mkTag 15 1 true true := by decide +kernel

/-- The state after reset meets the invariant's premise. -/
theorem witness_InvariantKept : State.reset.Inv := by
  refine ⟨⟨?_, ?_⟩, ?_, ?_, ?_, ?_, ?_⟩
  · decide +kernel
  · decide +kernel
  · intro u i h
    refine ⟨(State.reset.sub u i).fields, ?_, fun _ => rfl⟩
    cases u <;> (revert i; decide +kernel)
  · decide +kernel
  · decide +kernel
  · decide +kernel
  · decide +kernel

/-! ### Known answers -/

/-- "123456789", the check string of CRC catalogues. -/
def digits : List Byte := [0x31, 0x32, 0x33, 0x34, 0x35, 0x36, 0x37, 0x38, 0x39]

/-- SHA-384 of "abc" (FIPS 180-4). -/
theorem test_sha384_abc : shaNat [0x61, 0x62, 0x63] =
    0xcb00753f45a35e8bb5a03d699ac65007272c32ab0eded1631a8b605a43ff5bed8086072ba1e7cc2358baeca134c825a7 := by decide +kernel

/-- AES-256-GCM with an all-zero key and nonce and no text (test case 13 of the GCM specification). -/
theorem test_gcm_empty : beNat (gcmTag (aesKeys (List.replicate 32 0)) (List.replicate 12 0) [] []) =
    0x530f8afbc74536b9a963b4f1c4cb738b := by decide +kernel

/-- IDCODE of a GX7204 of revision B (example 15.1). -/
theorem test_idcode : seen (exec (.mspiRead 0 4) up) (fun n => n.hcb.sdo) = some (some [0x8D, 0x4B, 0x20, 0x17]) := by decide +kernel

/-- The check values of the four sums over the digits (Table 3.11). -/
theorem test_sums : crc32c (BitVec.allOnes 32) digits ^^^ BitVec.allOnes 32 = 0xE3069283 ∧
    crc16 (BitVec.allOnes 16) digits = 0x29B1 ∧ crc16 0 digits = 0x31C3 ∧ crc8 0 digits = 0xF4 := by decide +kernel

end Sys2Proof.Tests
end

section
/-! SUPPORT. The merge of operand tags (R25) field by field, and the statement about the tag of a new word. -/

namespace Sys2Proof.Machine

/-! ### The fields of a tag (Table 2.2) -/

@[simp] theorem tagOrigin_mkTag (o : BitVec 4) (r : BitVec 2) (v p : Bool) : tagOrigin (mkTag o r v p) = o := by
  revert o r v p; decide

@[simp] theorem tagTrust_mkTag (o : BitVec 4) (r : BitVec 2) (v p : Bool) : tagTrust (mkTag o r v p) = r := by
  revert o r v p; decide

@[simp] theorem tagValid_mkTag (o : BitVec 4) (r : BitVec 2) (v p : Bool) : tagValid (mkTag o r v p) = v := by
  revert o r v p; decide

@[simp] theorem tagPoison_mkTag (o : BitVec 4) (r : BitVec 2) (v p : Bool) : tagPoison (mkTag o r v p) = p := by
  revert o r v p; decide

@[simp] theorem tagOf_mkWord (tag : Byte) (d : Data) : tagOf (mkWord tag d) = tag :=
  BitVec.extractLsb'_append_eq_left

/-! ### The merge of two tags (R25) -/

@[simp] theorem tagOrigin_mergeTag (a b : Byte) :
    tagOrigin (mergeTag a b) = if tagOrigin a = tagOrigin b then tagOrigin a else 15 := tagOrigin_mkTag ..

@[simp] theorem tagTrust_mergeTag (a b : Byte) :
    tagTrust (mergeTag a b) = if (tagTrust a).toNat ≤ (tagTrust b).toNat then tagTrust a else tagTrust b :=
  tagTrust_mkTag ..

@[simp] theorem tagValid_mergeTag (a b : Byte) : tagValid (mergeTag a b) = (tagValid a && tagValid b) := tagValid_mkTag ..

@[simp] theorem tagPoison_mergeTag (a b : Byte) : tagPoison (mergeTag a b) = (tagPoison a || tagPoison b) :=
  tagPoison_mkTag ..

theorem tagTrust_mergeTag_eq_or (a b : Byte) :
    tagTrust (mergeTag a b) = tagTrust a ∨ tagTrust (mergeTag a b) = tagTrust b := by
  rw [tagTrust_mergeTag]
  split
  · exact .inl rfl
  · exact .inr rfl

theorem tagTrust_mergeTag_le (a b : Byte) :
    (tagTrust (mergeTag a b)).toNat ≤ (tagTrust a).toNat ∧ (tagTrust (mergeTag a b)).toNat ≤ (tagTrust b).toNat := by
  rw [tagTrust_mergeTag]
  split <;> omega

/-! ### The merge of a list of tags -/

@[simp] theorem mergeTags_nil : mergeTags [] = constTag := rfl

@[simp] theorem mergeTags_singleton (t : Byte) : mergeTags [t] = t := rfl

/-- The first two operands may be merged first: the step of every induction over a list of operands. -/
@[simp] theorem mergeTags_cons_cons (t u : Byte) (l : List Byte) :
    mergeTags (t :: u :: l) = mergeTags (mergeTag t u :: l) := rfl

/-- The origin of the first operand where all the others share it; 15, once reached, is never left. -/
theorem tagOrigin_mergeTags_cons (t : Byte) (l : List Byte) :
    tagOrigin (mergeTags (t :: l)) = if ∀ u ∈ l, tagOrigin u = tagOrigin t then tagOrigin t else 15 := by
  induction l generalizing t with
  | nil => simp
  | cons u l ih =>
    rw [mergeTags_cons_cons, ih, tagOrigin_mergeTag]
    by_cases h : tagOrigin t = tagOrigin u
    · simp [h]
    · simp [h, Ne.symm h]

theorem tagOrigin_mergeTags (l : List Byte) (hl : l ≠ []) :
    tagOrigin (mergeTags l) = if ∀ t ∈ l, tagOrigin t = tagOrigin (l.headD 0) then tagOrigin (l.headD 0) else 15 := by
  obtain ⟨t, l, rfl⟩ := List.exists_cons_of_ne_nil hl
  simp [tagOrigin_mergeTags_cons]

theorem tagOrigin_mergeTags_of_ne {l : List Byte} {a b : Byte} (ha : a ∈ l) (hb : b ∈ l) (h : tagOrigin a ≠ tagOrigin b) :
    tagOrigin (mergeTags l) = 15 := by
  rw [tagOrigin_mergeTags l (List.ne_nil_of_mem ha), if_neg]
  intro same
  exact h ((same a ha).trans (same b hb).symm)

theorem exists_tagTrust_mergeTags (l : List Byte) (hl : l ≠ []) : ∃ t ∈ l, tagTrust (mergeTags l) = tagTrust t := by
  obtain ⟨t, l, rfl⟩ := List.exists_cons_of_ne_nil hl
  clear hl
  induction l generalizing t with
  | nil => exact ⟨t, List.mem_singleton_self t, rfl⟩
  | cons u l ih =>
    obtain ⟨v, hv, e⟩ := ih (mergeTag t u)
    rw [mergeTags_cons_cons, e]
    rcases List.mem_cons.1 hv with rfl | hv
    · rcases tagTrust_mergeTag_eq_or t u with h | h
      · exact ⟨t, by simp, h⟩
      · exact ⟨u, by simp, h⟩
    · exact ⟨v, by simp [hv], rfl⟩

theorem tagTrust_mergeTags_le {l : List Byte} {t : Byte} (h : t ∈ l) :
    (tagTrust (mergeTags l)).toNat ≤ (tagTrust t).toNat := by
  obtain ⟨a, l, rfl⟩ := List.exists_cons_of_ne_nil (List.ne_nil_of_mem h)
  induction l generalizing a t with
  | nil =>
    obtain rfl := List.mem_singleton.1 h
    exact Nat.le_refl _
  | cons b l ih =>
    obtain ⟨hta, htb⟩ := tagTrust_mergeTag_le a b
    have hab := ih (mergeTag a b) List.mem_cons_self
    rw [mergeTags_cons_cons]
    simp only [List.mem_cons] at h
    rcases h with rfl | rfl | h
    · exact Nat.le_trans hab hta
    · exact Nat.le_trans hab htb
    · exact ih (mergeTag a b) (List.mem_cons_of_mem _ h)

theorem tagValid_mergeTags (l : List Byte) : tagValid (mergeTags l) = l.all tagValid := by
  cases l with
  | nil => decide
  | cons t l =>
    induction l generalizing t with
    | nil => simp
    | cons u l ih => simp [ih, Bool.and_assoc]

theorem tagPoison_mergeTags (l : List Byte) : tagPoison (mergeTags l) = l.any tagPoison := by
  cases l with
  | nil => decide
  | cons t l =>
    induction l generalizing t with
    | nil => simp
    | cons u l ih => simp [ih, Bool.or_assoc]

/-! ### The rows of Tables 3.4 and 3.5 -/

theorem exec_aluRow : ∀ row ∈ aluRows, ∃ op, ∀ (t : Thread) (f : FmtR) (s : State),
    exec (row.1 t f) s = .next (aluRegister t row.2.1 f op s) := by
  unfold aluRows
  repeat' refine List.forall_mem_cons.2 ⟨⟨_, fun _ _ _ => rfl⟩, ?_⟩
  exact List.forall_mem_nil _

theorem exec_immRow : ∀ row ∈ immRows, ∃ op, ∀ (t : Thread) (f : FmtI) (s : State),
    exec (row.1 t f) s = .next (aluImmediate t row.2.1 f op s) := by
  unfold immRows
  repeat' refine List.forall_mem_cons.2 ⟨⟨_, fun _ _ _ => rfl⟩, ?_⟩
  exact List.forall_mem_nil _

/-- An ALU register instruction that runs writes the result of its operation under the merged tag, whatever the operation. -/
theorem aluRegister_writes {s : State} {t : Thread} {fn : BitVec 6} {f : FmtR} (op : Data → Data → Data) (hz : f.imm9 = 0)
    (hrun : s.runs t (encR 0x02 fn f) [f.wa, f.wb] false = true) :
    WritesReg s (aluRegister t fn f op s) t f.wd
      (mkWord (mergeTag (tagOf (s.reg t f.wa)) (tagOf (s.reg t f.wb)))
        (op (dataOf (s.reg t f.wa)) (dataOf (s.reg t f.wb)))) (s.iaOf t + 1) :=
  issue_writes hrun (by simp [Issued.unless, hz, fetchCorrect_reg])

/-- An ALU immediate instruction that runs writes the result of its operation under the tag of WA (R47). -/
theorem aluImmediate_writes {s : State} {t : Thread} {opc : BitVec 6} {f : FmtI} (op : Data → Data → Data)
    (hrun : s.runs t (encI opc f) [f.wa] false = true) :
    WritesReg s (aluImmediate t opc f op s) t f.wd
      (mkWord (tagOf (s.reg t f.wa)) (op (dataOf (s.reg t f.wa)) (sext20 f.imm))) (s.iaOf t + 1) :=
  issue_writes hrun (by simp [fetchCorrect_reg])

theorem WritesReg.tagOf_reg {s n : State} {t : Thread} {wd : Reg} {tag : Byte} {d : Data} {ia : BitVec 24}
    (h : WritesReg s n t wd (mkWord tag d) ia) (hwd : wd ≠ 0) : tagOf (n.reg t wd) = tag := by
  rw [(h.value hwd).1, tagOf_mkWord]

/-- Settles O58: each field of the merge by induction over the operands; the rows of Tables 3.4 and 3.5 write their result under
that merge. -/
theorem mergedTags : Obligations.MergedTags := by
  refine ⟨fun l hl => ⟨tagOrigin_mergeTags l hl, exists_tagTrust_mergeTags l hl, fun t ht => tagTrust_mergeTags_le ht, ?_, ?_⟩,
    by decide, fun s t => read_zero _, fun l h0 => ⟨?_, ?_⟩, ?_, ?_⟩
  · rw [tagValid_mergeTags, List.all_eq_true]
  · rw [tagPoison_mergeTags, List.any_eq_true]
  · rw [tagValid_mergeTags, List.all_eq_false]
    exact ⟨0, h0, by decide⟩
  · rintro ⟨t, ht, hne⟩
    exact tagOrigin_mergeTags_of_ne ht h0 hne
  · intro row hrow t f s hz hwd hrun
    obtain ⟨op, hexec⟩ := exec_aluRow row hrow
    exact ⟨_, hexec t f s, (aluRegister_writes op hz hrun).tagOf_reg hwd⟩
  · intro row hrow t f s hwd hrun
    obtain ⟨op, hexec⟩ := exec_immRow row hrow
    exact ⟨_, hexec t f s, (aluImmediate_writes op hrun).tagOf_reg hwd⟩

end Sys2Proof.Machine
end

section
/-! SUPPORT. The Riffle engines and channels after a reset of the main domain (R286, R404), and the statement about them. -/

namespace Sys2Proof.Machine

/-- Every engine and every channel is at its reset state (R286; log 3). -/
def State.RiffleInitial (s : State) : Prop :=
  s.engines = Vector.replicate 4 REng.initial ∧ s.chans = Vector.replicate 64 RChan.initial

/-! ### What the reset state of engines and channels holds -/

theorem State.RiffleInitial.engine_eq {s : State} (h : s.RiffleInitial) (e : EngNo) : s.engines[e] = REng.initial := by
  simp [h.1]

theorem State.RiffleInitial.chan_eq {s : State} (h : s.RiffleInitial) (g : ChanNo) : s.chans[g] = RChan.initial := by
  simp [h.2]

theorem REng.initial_store (i : Fin 128) : REng.initial.store[i] = 0 := by
  simp [REng.initial]

/-! ### Every reset of the main domain (Table 15.6) -/

theorem reset_riffleInitial : State.reset.RiffleInitial := ⟨rfl, rfl⟩

theorem mainReset_riffleInitial (s : State) (row : ResetRow) : (s.mainReset row).RiffleInitial := ⟨rfl, rfl⟩

theorem aonReset_riffleInitial (s : State) : (aonReset s).RiffleInitial := ⟨rfl, rfl⟩

theorem rstLow_riffleInitial {s : State} (h : s.power.aonHeld = false) : (rstLow s).RiffleInitial := by
  simp [rstLow, h, mainReset_riffleInitial]

theorem supplyDrop_riffleInitial {s : State} (h : s.power.aonHeld = false) : (supplyDrop s).RiffleInitial := by
  simp [supplyDrop, h, mainReset_riffleInitial]

/-! ### RESET from the host and a wake from Retain or Hibernate -/

/-- A frame that the HCB serves drives SDO and has its effect (R406). -/
theorem hostFrame_of_hostServes {s : State} (f : State → State) (h : s.hostServes = true) :
    s.hostFrame f = f (s.setSdo (some [])) := by
  simp only [State.hostServes, Bool.and_eq_true, Bool.not_eq_true', beq_iff_eq, bne_iff_ne] at h
  obtain ⟨⟨⟨hheld, haon⟩, hmode⟩, hphase⟩ := h
  have hframed : s.framed = true := by simp [State.framed, hheld, haon, hmode, hphase]
  have hframed' : (s.setSdo (some [])).framed = true := hframed
  simp [State.hostFrame, hframed, hframed', hheld, haon, hmode]

/-- With no entry in progress, a wake from Retain is a warm start and one from Hibernate a cold start: both reset the main domain
(R402). -/
theorem wakeSource_riffleInitial {s : State} (src : WakeSource) (hentry : s.power.entering = none)
    (hmode : s.power.mode = .retain ∨ s.power.mode = .hibernate) : (s.wakeSource src).RiffleInitial := by
  rcases hmode with hmode | hmode <;>
    simp [State.wakeSource, State.wakeUp, hentry, hmode, mainReset_riffleInitial]

/-- Settles O57: each event sets every engine and channel to its reset state, whose fields R286 lists. -/
theorem riffleAtReset : Obligations.RiffleAtReset := by
  intro n hn
  have hinit : n.RiffleInitial := by
    rcases hn with rfl | ⟨s, ⟨haon, hrst | hsupply⟩ | haonReset | ⟨hserves, hreset⟩ | ⟨hentry, hmode, hwake⟩⟩
    · exact reset_riffleInitial
    · obtain rfl := Host.Outcome.next.inj hrst
      exact rstLow_riffleInitial haon
    · obtain rfl := Host.Outcome.next.inj hsupply
      exact supplyDrop_riffleInitial haon
    · obtain rfl := Host.Outcome.next.inj haonReset
      exact aonReset_riffleInitial s
    · obtain rfl := Host.Outcome.next.inj hreset
      rw [hostFrame_of_hostServes _ hserves]
      exact mainReset_riffleInitial _ _
    · obtain rfl := Host.Outcome.next.inj hwake
      exact wakeSource_riffleInitial _ hentry hmode
  refine ⟨fun e => ?_, fun g => ?_⟩
  · rw [hinit.engine_eq e]
    exact ⟨rfl, REng.initial_store, rfl⟩
  · rw [hinit.chan_eq g]
    exact ⟨rfl, rfl, rfl, rfl⟩

end Sys2Proof.Machine
end
